-- ==== Sys2Proof/Word.lean ====
section
/-! DEFINITION. The plain data widths of the Omnilink cipher core (spec/00_scope.md R6, R8): a byte, a 16-bit
sequence number, and the fixed-size byte strings (a 16-byte key or block, a 5-byte session identifier, the 20-byte
receive buffer). A byte string `B` is indexed from 0, and `B[0]` is the first byte on the wire. -/

namespace Sys2Proof

/-- A byte: 8 bits, bit 0 the least significant (R8). -/
abbrev Byte := BitVec 8

/-- A 16-bit sequence number (`SEQ_BITS`, R6). -/
abbrev Seq := BitVec 16

/-- A 16-byte key (`LTK_BYTES`, `SK_BYTES`, R6). -/
abbrev Key := Vector Byte 16

/-- A 16-byte cipher block (`BLOCK_BYTES`, R6). -/
abbrev Block := Vector Byte 16

/-- A 5-byte session identifier (`SID_BYTES`, R6). -/
abbrev Sid := Vector Byte 5

/-- The 20 bytes of the receive buffer (`SS_ACK_BYTES`, R33). -/
abbrev RxBuf := Vector Byte 20

end Sys2Proof
end

