-- ==== Sys2Proof/Machine/Bytes.lean ====
section
/-! DEFINITION. Byte strings, bit fields and byte order (spec/00_scope.md R8, R9; spec/20_memory.md R61): big-endian
everywhere, index 0 first. -/

namespace Sys2Proof.Machine

/-- R9: `hi8(s) = s[15:8]`. -/
def hi8 (s : Seq) : Byte := s.extractLsb' 8 8

/-- R9: `lo8(s) = s[7:0]`. -/
def lo8 (s : Seq) : Byte := s.extractLsb' 0 8

/-- R9: `be16(h, l) = h·256 + l`. -/
def be16 (h l : Byte) : Seq := h ++ l

/-- R9: `enc16(s) = [hi8(s), lo8(s)]`. -/
def enc16 (s : Seq) : List Byte := [hi8 s, lo8 s]

/-- R10: `enc8(n)` is the byte n. -/
def enc8 (n : Nat) : Byte := BitVec.ofNat 8 n

/-- R8: `zeros(n)`. -/
def zeros (n : Nat) : List Byte := List.replicate n 0

/-- The all-zero string of a fixed size. -/
def zeroVec (n : Nat) : Vector Byte n := Vector.replicate n 0

/-- R8: the fixed-size field `B[off : off + n]` of a byte string (a byte past the end reads 0; every caller has
checked the length). -/
def field (n : Nat) (b : List Byte) (off : Nat) : Vector Byte n := Vector.ofFn fun i => b.getD (off + i) 0

/-- The byte at index `i` (0 past the end; every caller has checked the length). -/
def byteAt (b : List Byte) (i : Nat) : Byte := b.getD i 0

end Sys2Proof.Machine
end

