-- ==== Sys2Proof/Syntax.lean ====
section
/-! DEFINITION. The instructions of spec/opcode_table.json, one constructor per row (thirteen commands, twelve reserved
opcode ranges, three events), and the raw inputs of spec/00_scope.md R12 from which they are decoded. -/

namespace Sys2Proof

/-- R102, R217: the kind of a transport failure. The port's code 3 is never sent and is no kind. -/
inductive TErrKind where
  | read
  | write
  | eof
deriving DecidableEq, Repr

/-- The rows of spec/opcode_table.json. Operand fields are those of R93; a reserved row keeps the bits of the opcode its
mask leaves free, the LEN byte and every byte after it, since R254 decides before the length checks. -/
inductive Instr where
  /-- 0x00, R250. -/
  | nop
  /-- 0x01, R251: `L`. -/
  | loadLtk (l : Key)
  /-- 0x02, R221. -/
  | newSession
  /-- 0x03, R205. -/
  | hsStart
  /-- 0x04, R219. -/
  | close
  /-- 0x05, R252. -/
  | readStatus
  /-- 0x06, R253. -/
  | readSk
  /-- 0x10, R141: `L`, `S`. -/
  | kdf (l : Key) (sid : Sid)
  /-- 0x11, R152: key `K` and buffer `B` (header then payload). -/
  | chainEnc (k : Key) (buf : List Byte)
  /-- 0x12, R155: key `K`, sequence number `S`, ciphertext block `C`. -/
  | chainDec (k : Key) (sq : Seq) (blk : Block)
  /-- 0x13, R172: `SQ`, type `T`, key present `KP`, key `K`, payload `P`. -/
  | frame (sq : Seq) (t : Byte) (kp : Bool) (k : Key) (p : List Byte)
  /-- 0x14, R177: type `T`, payload `P`. -/
  | send (t : Byte) (p : List Byte)
  /-- 0x20, R192. -/
  | seqNext
  /-- 0x07, R254. -/
  | reserved07 (len : Byte) (rest : List Byte)
  /-- 0x08..0x0F, R254. -/
  | reserved08 (x : BitVec 3) (len : Byte) (rest : List Byte)
  /-- 0x15, R254. -/
  | reserved15 (len : Byte) (rest : List Byte)
  /-- 0x16..0x17, R254. -/
  | reserved16 (x : BitVec 1) (len : Byte) (rest : List Byte)
  /-- 0x18..0x1F, R254. -/
  | reserved18 (x : BitVec 3) (len : Byte) (rest : List Byte)
  /-- 0x21, R254. -/
  | reserved21 (len : Byte) (rest : List Byte)
  /-- 0x22..0x23, R254. -/
  | reserved22 (x : BitVec 1) (len : Byte) (rest : List Byte)
  /-- 0x24..0x27, R254. -/
  | reserved24 (x : BitVec 2) (len : Byte) (rest : List Byte)
  /-- 0x28..0x2F, R254. -/
  | reserved28 (x : BitVec 3) (len : Byte) (rest : List Byte)
  /-- 0x30..0x3F, R254. -/
  | reserved30 (x : BitVec 4) (len : Byte) (rest : List Byte)
  /-- 0x40..0x7F, R254. -/
  | reserved40 (x : BitVec 6) (len : Byte) (rest : List Byte)
  /-- 0x80..0xFF, R254. -/
  | reserved80 (x : BitVec 7) (len : Byte) (rest : List Byte)
  /-- Event RxByte, R208: one received byte. -/
  | rxByte (b : Byte)
  /-- Event TErr, R217: a transport failure. -/
  | tErr (k : TErrKind)
  /-- Event Reset, R300. -/
  | reset
deriving DecidableEq, Repr

/-- R12: an input as its agent offers it, before decoding. -/
inductive Input where
  /-- `Cmd(r, CMD)`: requester `r` sends the command bytes. -/
  | cmd (r : Nat) (bytes : List Byte)
  /-- `RxByte(b)` on the RX port (R102). -/
  | rxByte (b : Byte)
  /-- `TErr(k)` with its 2-bit kind code (R102). -/
  | tErr (code : BitVec 2)
  /-- `Reset` from the platform. -/
  | reset
deriving DecidableEq, Repr

end Sys2Proof
end

