-- ==== Sys2Proof/WellFormed.lean ====
section
/-! DEFINITION. Which instructions have an encoding: the operand lengths of spec/30_encoding.md R93 that the types of
`Instr` do not fix already. -/

namespace Sys2Proof

/-- R93: CHAIN_ENC's buffer has 4..239 bytes, FRAME's payload 0..235 and SEND's 0..254. Every other instruction's fields
have fixed widths, and a reserved opcode admits any bytes after it (R254). -/
def WellFormed : Instr → Bool
  | .nop => true
  | .loadLtk _ => true
  | .newSession => true
  | .hsStart => true
  | .close => true
  | .readStatus => true
  | .readSk => true
  | .kdf _ _ => true
  | .chainEnc _ buf => decide (4 ≤ buf.length ∧ buf.length ≤ 239)
  | .chainDec _ _ _ => true
  | .frame _ _ _ _ p => decide (p.length ≤ 235)
  | .send _ p => decide (p.length ≤ 254)
  | .seqNext => true
  | .reserved07 _ _ => true
  | .reserved08 _ _ _ => true
  | .reserved15 _ _ => true
  | .reserved16 _ _ _ => true
  | .reserved18 _ _ _ => true
  | .reserved21 _ _ => true
  | .reserved22 _ _ _ => true
  | .reserved24 _ _ _ => true
  | .reserved28 _ _ _ => true
  | .reserved30 _ _ _ => true
  | .reserved40 _ _ _ => true
  | .reserved80 _ _ _ => true
  | .rxByte _ => true
  | .tErr _ => true
  | .reset => true

end Sys2Proof
end

