-- ==== Sys2Proof/Decode.lean ====
section
/-! DEFINITION. The decoder (spec/30_encoding.md R93, R95, R96, R99, R102), total on every input and rejecting by name,
the encoder written from the same tables, the opcode rows as mask and match (R95), and the host's numbering of a table
word. -/

namespace Sys2Proof
open Sys2Proof.Machine

/-- Why an input is no instruction. The first four are R96's INVALID_INPUT checks, in its order. -/
inductive DecodeError where
  /-- R96: `|CMD| < 2`. -/
  | tooShort
  /-- R96: `|CMD| ≠ 2 + LEN`. -/
  | lengthMismatch
  /-- R96: LEN is not legal for the opcode. -/
  | illegalLen
  /-- R96: FRAME's KP is neither 0 nor 1. -/
  | keyPresent
  /-- R102: a transport failure of kind 3, which is never sent. -/
  | errPortKind3
deriving DecidableEq, Repr

/-- R95, R254: the reserved opcodes, by the mask and match of their twelve rows. -/
def decodeReserved (opc len : Byte) (rest : List Byte) : Option Instr :=
  if opc = 0x07 then some (.reserved07 len rest)
  else if opc &&& 0xF8 = 0x08 then some (.reserved08 (opc.setWidth 3) len rest)
  else if opc = 0x15 then some (.reserved15 len rest)
  else if opc &&& 0xFE = 0x16 then some (.reserved16 (opc.setWidth 1) len rest)
  else if opc &&& 0xF8 = 0x18 then some (.reserved18 (opc.setWidth 3) len rest)
  else if opc = 0x21 then some (.reserved21 len rest)
  else if opc &&& 0xFE = 0x22 then some (.reserved22 (opc.setWidth 1) len rest)
  else if opc &&& 0xFC = 0x24 then some (.reserved24 (opc.setWidth 2) len rest)
  else if opc &&& 0xF8 = 0x28 then some (.reserved28 (opc.setWidth 3) len rest)
  else if opc &&& 0xF0 = 0x30 then some (.reserved30 (opc.setWidth 4) len rest)
  else if opc &&& 0xC0 = 0x40 then some (.reserved40 (opc.setWidth 6) len rest)
  else if opc &&& 0x80 = 0x80 then some (.reserved80 (opc.setWidth 7) len rest)
  else none

/-- R96: an instruction whose LEN is legal, or the rejection of its LEN. -/
def ifLegal (legal : Bool) (i : Instr) : Except DecodeError Instr := if legal then .ok i else .error .illegalLen

/-- R93: the operand fields of a legal opcode, after the byte count has been checked against LEN. -/
def decodeOperands (opc : Byte) (ops : List Byte) : Except DecodeError Instr :=
  if opc = 0x00 then ifLegal (ops.length == 0) .nop
  else if opc = 0x01 then ifLegal (ops.length == 16) (.loadLtk (field 16 ops 0))
  else if opc = 0x02 then ifLegal (ops.length == 0) .newSession
  else if opc = 0x03 then ifLegal (ops.length == 0) .hsStart
  else if opc = 0x04 then ifLegal (ops.length == 0) .close
  else if opc = 0x05 then ifLegal (ops.length == 0) .readStatus
  else if opc = 0x06 then ifLegal (ops.length == 0) .readSk
  else if opc = 0x10 then ifLegal (ops.length == 21) (.kdf (field 16 ops 0) (field 5 ops 16))
  else if opc = 0x11 then ifLegal (decide (20 ≤ ops.length)) (.chainEnc (field 16 ops 0) (ops.drop 16))
  else if opc = 0x12 then
    ifLegal (ops.length == 34) (.chainDec (field 16 ops 0) (be16 (byteAt ops 16) (byteAt ops 17)) (field 16 ops 18))
  else if opc = 0x13 then
    if ops.length < 20 then .error .illegalLen
    else if byteAt ops 3 = 0x00 ∨ byteAt ops 3 = 0x01 then
      .ok (.frame (be16 (byteAt ops 0) (byteAt ops 1)) (byteAt ops 2) (byteAt ops 3 == 0x01) (field 16 ops 4)
        (ops.drop 20))
    else .error .keyPresent
  else if opc = 0x14 then ifLegal (decide (1 ≤ ops.length)) (.send (byteAt ops 0) (ops.drop 1))
  else ifLegal (ops.length == 0) .seqNext

/-- R96: the decode checks of a command frame, in their order: too short, reserved opcode, byte count, LEN, KP. -/
def decodeFrame : List Byte → Except DecodeError Instr
  | opc :: len :: ops =>
    match decodeReserved opc len ops with
    | some i => .ok i
    | none => if ops.length = len.toNat then decodeOperands opc ops else .error .lengthMismatch
  | _ => .error .tooShort

/-- R102: the failure kind of a 2-bit code; 3 is never sent. -/
def decodeErrPort (code : BitVec 2) : Except DecodeError Instr :=
  if code = 0 then .ok (.tErr .read)
  else if code = 1 then .ok (.tErr .write)
  else if code = 2 then .ok (.tErr .eof)
  else .error .errPortKind3

/-- The decoder: the instruction an input stands for. It reads no state (R98). -/
def decode : Input → Except DecodeError Instr
  | .cmd _ bytes => decodeFrame bytes
  | .rxByte b => .ok (.rxByte b)
  | .tErr code => decodeErrPort code
  | .reset => .ok .reset

/-- R90: a command frame `OPC ‖ LEN ‖ OPERANDS`. -/
def commandFrame (opc : Byte) (ops : List Byte) : List Byte := opc :: enc8 ops.length :: ops

/-- R102: the 2-bit code of a failure kind. -/
def errPortCode : TErrKind → BitVec 2
  | .read => 0
  | .write => 1
  | .eof => 2

/-- The encoder: the input by which requester `r` (for a command) or an agent's port (for an event) gives a
well-formed instruction to the core (R90, R93, R95, R102). -/
def encode (r : Nat) : Instr → Input
  | .nop => .cmd r (commandFrame 0x00 [])
  | .loadLtk l => .cmd r (commandFrame 0x01 l.toList)
  | .newSession => .cmd r (commandFrame 0x02 [])
  | .hsStart => .cmd r (commandFrame 0x03 [])
  | .close => .cmd r (commandFrame 0x04 [])
  | .readStatus => .cmd r (commandFrame 0x05 [])
  | .readSk => .cmd r (commandFrame 0x06 [])
  | .kdf l sid => .cmd r (commandFrame 0x10 (l.toList ++ sid.toList))
  | .chainEnc k buf => .cmd r (commandFrame 0x11 (k.toList ++ buf))
  | .chainDec k sq blk => .cmd r (commandFrame 0x12 (k.toList ++ enc16 sq ++ blk.toList))
  | .frame sq t kp k p =>
    .cmd r (commandFrame 0x13 (enc16 sq ++ [t, if kp then 0x01 else 0x00] ++ k.toList ++ p))
  | .send t p => .cmd r (commandFrame 0x14 (t :: p))
  | .seqNext => .cmd r (commandFrame 0x20 [])
  | .reserved07 len rest => .cmd r (0x07 :: len :: rest)
  | .reserved08 x len rest => .cmd r ((0x01#5 ++ x) :: len :: rest)
  | .reserved15 len rest => .cmd r (0x15 :: len :: rest)
  | .reserved16 x len rest => .cmd r ((0x0B#7 ++ x) :: len :: rest)
  | .reserved18 x len rest => .cmd r ((0x03#5 ++ x) :: len :: rest)
  | .reserved21 len rest => .cmd r (0x21 :: len :: rest)
  | .reserved22 x len rest => .cmd r ((0x11#7 ++ x) :: len :: rest)
  | .reserved24 x len rest => .cmd r ((0x09#6 ++ x) :: len :: rest)
  | .reserved28 x len rest => .cmd r ((0x05#5 ++ x) :: len :: rest)
  | .reserved30 x len rest => .cmd r ((0x3#4 ++ x) :: len :: rest)
  | .reserved40 x len rest => .cmd r ((0x1#2 ++ x) :: len :: rest)
  | .reserved80 x len rest => .cmd r ((0x1#1 ++ x) :: len :: rest)
  | .rxByte b => .rxByte b
  | .tErr k => .tErr (errPortCode k)
  | .reset => .reset

/-- A row of the opcode table: `word &&& mask = val` for the word `(CMD[0] << 8) | CMD[1]` (R95). -/
structure OpcodeRow where
  mask : BitVec 16
  val : BitVec 16
deriving DecidableEq, Repr

/-- R95: the table's row of each instruction; the events are no commands and have none. -/
def opcodeRow : Instr → Option OpcodeRow
  | .nop => some ⟨0xFFFF, 0x0000⟩
  | .loadLtk _ => some ⟨0xFFFF, 0x0110⟩
  | .newSession => some ⟨0xFFFF, 0x0200⟩
  | .hsStart => some ⟨0xFFFF, 0x0300⟩
  | .close => some ⟨0xFFFF, 0x0400⟩
  | .readStatus => some ⟨0xFFFF, 0x0500⟩
  | .readSk => some ⟨0xFFFF, 0x0600⟩
  | .kdf _ _ => some ⟨0xFFFF, 0x1015⟩
  | .chainEnc _ _ => some ⟨0xFF00, 0x1100⟩
  | .chainDec _ _ _ => some ⟨0xFFFF, 0x1222⟩
  | .frame _ _ _ _ _ => some ⟨0xFF00, 0x1300⟩
  | .send _ _ => some ⟨0xFF00, 0x1400⟩
  | .seqNext => some ⟨0xFFFF, 0x2000⟩
  | .reserved07 _ _ => some ⟨0xFF00, 0x0700⟩
  | .reserved08 _ _ _ => some ⟨0xF800, 0x0800⟩
  | .reserved15 _ _ => some ⟨0xFF00, 0x1500⟩
  | .reserved16 _ _ _ => some ⟨0xFE00, 0x1600⟩
  | .reserved18 _ _ _ => some ⟨0xF800, 0x1800⟩
  | .reserved21 _ _ => some ⟨0xFF00, 0x2100⟩
  | .reserved22 _ _ _ => some ⟨0xFE00, 0x2200⟩
  | .reserved24 _ _ _ => some ⟨0xFC00, 0x2400⟩
  | .reserved28 _ _ _ => some ⟨0xF800, 0x2800⟩
  | .reserved30 _ _ _ => some ⟨0xF000, 0x3000⟩
  | .reserved40 _ _ _ => some ⟨0xC000, 0x4000⟩
  | .reserved80 _ _ _ => some ⟨0x8000, 0x8000⟩
  | .rxByte _ => none
  | .tErr _ => none
  | .reset => none

/-- R95: the 16-bit word of a command frame. -/
def frameWord (bytes : List Byte) : BitVec 16 := be16 (byteAt bytes 0) (byteAt bytes 1)

/-- The bytes of `n` 16-bit words, numbered from the first word (bits 15..0 of `w`), each with its high byte first:
the table's word is `(CMD[0] << 8) | CMD[1]`. -/
def wordBytes : Nat → Nat → List Byte
  | 0, _ => []
  | n + 1, w => BitVec.ofNat 8 (w / 256) :: BitVec.ofNat 8 w :: wordBytes n (w / 65536)

/-- A command frame whose first bits are a table word, its remaining operand bytes (as many as LEN says) zero. -/
def tableFrame (nbits w : Nat) : List Byte :=
  let bytes := wordBytes ((nbits + 15) / 16) w
  (bytes ++ zeros 257).take (2 + (byteAt bytes 1).toNat)

/-- The input a table word stands for: Reset has no bits, TErr has 2, RxByte has 8, a command 16 or more (log entry 7). -/
def tableInput (nbits w : Nat) : Input :=
  if nbits = 0 then .reset
  else if nbits = 2 then .tErr (BitVec.ofNat 2 w)
  else if nbits = 8 then .rxByte (BitVec.ofNat 8 w)
  else .cmd 0 (tableFrame nbits w)

/-- The instruction the decoder reads from a table word; `none` where it rejects it. -/
def decodeTableWord (nbits w : Nat) : Option Instr := (decode (tableInput nbits w)).toOption

end Sys2Proof
end

