-- ==== Sys2Proof/Machine/Aes.lean ====
section
/-! DEFINITION. The AES-128 primitive (spec/40_aes128.md R120 to R133): GF(2^8) arithmetic, the two S-box tables, the
round transformations, key expansion, the cipher and the inverse cipher. The spec marks this text as general knowledge
(FIPS-197), adopted by decision D32; the model takes the concrete cipher, not the parameter R137 allows (log entry 8). -/

namespace Sys2Proof.Machine

/-- Four bytes in rows 0 to 3: a column `s[0..3][c]` of the cipher state, or a key-schedule word `w[i]` (R121). -/
structure Col where
  r0 : Byte
  r1 : Byte
  r2 : Byte
  r3 : Byte
deriving DecidableEq, Repr

/-- The 4x4 byte array `s[r][c]` of R121, column by column. A round key has the same shape (R128). -/
structure AesState where
  c0 : Col
  c1 : Col
  c2 : Col
  c3 : Col
deriving DecidableEq, Repr

/-- R121: a 16-byte input is loaded column by column, `s[r][c] = in[r + 4c]`. -/
def aesLoad (b : Block) : AesState where
  c0 := ⟨b[0], b[1], b[2], b[3]⟩
  c1 := ⟨b[4], b[5], b[6], b[7]⟩
  c2 := ⟨b[8], b[9], b[10], b[11]⟩
  c3 := ⟨b[12], b[13], b[14], b[15]⟩

/-- R121: the output is read the same way, `out[r + 4c] = s[r][c]`. -/
def aesStore (s : AesState) : Block :=
  #v[s.c0.r0, s.c0.r1, s.c0.r2, s.c0.r3, s.c1.r0, s.c1.r1, s.c1.r2, s.c1.r3,
     s.c2.r0, s.c2.r1, s.c2.r2, s.c2.r3, s.c3.r0, s.c3.r1, s.c3.r2, s.c3.r3]

/-- R122: multiplication by x, reduced modulo 0x11B. -/
def xtime (b : Byte) : Byte :=
  (b <<< 1) ^^^ (if b.getLsbD 7 then 0x1B else 0x00)

/-- The sum of `xtime^i(a)` over the set bits of the low `n` bits of `b`. -/
def gfMulBits : Nat → Byte → Byte → Byte
  | 0, _, _ => 0
  | n + 1, a, b => (if b.getLsbD 0 then a else 0) ^^^ gfMulBits n (xtime a) (b >>> 1)

/-- R122: `a • b` is the XOR of `xtime^i(a)` over every set bit i of b. -/
def gfMul (a b : Byte) : Byte := gfMulBits 8 a b

/-- `a` to the power `2^n - 1`, by squaring. -/
def gfPowOnes : Nat → Byte → Byte
  | 0, _ => 1
  | n + 1, a => let p := gfPowOnes n a; gfMul a (gfMul p p)

/-- R122: the multiplicative inverse of a nonzero byte, and 0 for 0, computed as `a^254`. That it is the inverse is an
obligation, not part of this definition. -/
def gfInv (a : Byte) : Byte := let p := gfPowOnes 7 a; gfMul p p

/-- R123: the affine map of the S-box. -/
def sboxAffine (b : Byte) : Byte :=
  b ^^^ b.rotateLeft 1 ^^^ b.rotateLeft 2 ^^^ b.rotateLeft 3 ^^^ b.rotateLeft 4 ^^^ 0x63

/-- The S-box table of R123: the row of a high nibble. -/
def sboxRow : Nat → List Byte
  | 0x0 => [0x63, 0x7c, 0x77, 0x7b, 0xf2, 0x6b, 0x6f, 0xc5, 0x30, 0x01, 0x67, 0x2b, 0xfe, 0xd7, 0xab, 0x76]
  | 0x1 => [0xca, 0x82, 0xc9, 0x7d, 0xfa, 0x59, 0x47, 0xf0, 0xad, 0xd4, 0xa2, 0xaf, 0x9c, 0xa4, 0x72, 0xc0]
  | 0x2 => [0xb7, 0xfd, 0x93, 0x26, 0x36, 0x3f, 0xf7, 0xcc, 0x34, 0xa5, 0xe5, 0xf1, 0x71, 0xd8, 0x31, 0x15]
  | 0x3 => [0x04, 0xc7, 0x23, 0xc3, 0x18, 0x96, 0x05, 0x9a, 0x07, 0x12, 0x80, 0xe2, 0xeb, 0x27, 0xb2, 0x75]
  | 0x4 => [0x09, 0x83, 0x2c, 0x1a, 0x1b, 0x6e, 0x5a, 0xa0, 0x52, 0x3b, 0xd6, 0xb3, 0x29, 0xe3, 0x2f, 0x84]
  | 0x5 => [0x53, 0xd1, 0x00, 0xed, 0x20, 0xfc, 0xb1, 0x5b, 0x6a, 0xcb, 0xbe, 0x39, 0x4a, 0x4c, 0x58, 0xcf]
  | 0x6 => [0xd0, 0xef, 0xaa, 0xfb, 0x43, 0x4d, 0x33, 0x85, 0x45, 0xf9, 0x02, 0x7f, 0x50, 0x3c, 0x9f, 0xa8]
  | 0x7 => [0x51, 0xa3, 0x40, 0x8f, 0x92, 0x9d, 0x38, 0xf5, 0xbc, 0xb6, 0xda, 0x21, 0x10, 0xff, 0xf3, 0xd2]
  | 0x8 => [0xcd, 0x0c, 0x13, 0xec, 0x5f, 0x97, 0x44, 0x17, 0xc4, 0xa7, 0x7e, 0x3d, 0x64, 0x5d, 0x19, 0x73]
  | 0x9 => [0x60, 0x81, 0x4f, 0xdc, 0x22, 0x2a, 0x90, 0x88, 0x46, 0xee, 0xb8, 0x14, 0xde, 0x5e, 0x0b, 0xdb]
  | 0xa => [0xe0, 0x32, 0x3a, 0x0a, 0x49, 0x06, 0x24, 0x5c, 0xc2, 0xd3, 0xac, 0x62, 0x91, 0x95, 0xe4, 0x79]
  | 0xb => [0xe7, 0xc8, 0x37, 0x6d, 0x8d, 0xd5, 0x4e, 0xa9, 0x6c, 0x56, 0xf4, 0xea, 0x65, 0x7a, 0xae, 0x08]
  | 0xc => [0xba, 0x78, 0x25, 0x2e, 0x1c, 0xa6, 0xb4, 0xc6, 0xe8, 0xdd, 0x74, 0x1f, 0x4b, 0xbd, 0x8b, 0x8a]
  | 0xd => [0x70, 0x3e, 0xb5, 0x66, 0x48, 0x03, 0xf6, 0x0e, 0x61, 0x35, 0x57, 0xb9, 0x86, 0xc1, 0x1d, 0x9e]
  | 0xe => [0xe1, 0xf8, 0x98, 0x11, 0x69, 0xd9, 0x8e, 0x94, 0x9b, 0x1e, 0x87, 0xe9, 0xce, 0x55, 0x28, 0xdf]
  | _ => [0x8c, 0xa1, 0x89, 0x0d, 0xbf, 0xe6, 0x42, 0x68, 0x41, 0x99, 0x2d, 0x0f, 0xb0, 0x54, 0xbb, 0x16]

/-- R123: `Sbox(a)`, read from the table at row `a[7:4]` and column `a[3:0]`. -/
def sbox (a : Byte) : Byte := (sboxRow (a.toNat / 16)).getD (a.toNat % 16) 0

/-- The inverse S-box table of R124: the row of a high nibble. -/
def invSboxRow : Nat → List Byte
  | 0x0 => [0x52, 0x09, 0x6a, 0xd5, 0x30, 0x36, 0xa5, 0x38, 0xbf, 0x40, 0xa3, 0x9e, 0x81, 0xf3, 0xd7, 0xfb]
  | 0x1 => [0x7c, 0xe3, 0x39, 0x82, 0x9b, 0x2f, 0xff, 0x87, 0x34, 0x8e, 0x43, 0x44, 0xc4, 0xde, 0xe9, 0xcb]
  | 0x2 => [0x54, 0x7b, 0x94, 0x32, 0xa6, 0xc2, 0x23, 0x3d, 0xee, 0x4c, 0x95, 0x0b, 0x42, 0xfa, 0xc3, 0x4e]
  | 0x3 => [0x08, 0x2e, 0xa1, 0x66, 0x28, 0xd9, 0x24, 0xb2, 0x76, 0x5b, 0xa2, 0x49, 0x6d, 0x8b, 0xd1, 0x25]
  | 0x4 => [0x72, 0xf8, 0xf6, 0x64, 0x86, 0x68, 0x98, 0x16, 0xd4, 0xa4, 0x5c, 0xcc, 0x5d, 0x65, 0xb6, 0x92]
  | 0x5 => [0x6c, 0x70, 0x48, 0x50, 0xfd, 0xed, 0xb9, 0xda, 0x5e, 0x15, 0x46, 0x57, 0xa7, 0x8d, 0x9d, 0x84]
  | 0x6 => [0x90, 0xd8, 0xab, 0x00, 0x8c, 0xbc, 0xd3, 0x0a, 0xf7, 0xe4, 0x58, 0x05, 0xb8, 0xb3, 0x45, 0x06]
  | 0x7 => [0xd0, 0x2c, 0x1e, 0x8f, 0xca, 0x3f, 0x0f, 0x02, 0xc1, 0xaf, 0xbd, 0x03, 0x01, 0x13, 0x8a, 0x6b]
  | 0x8 => [0x3a, 0x91, 0x11, 0x41, 0x4f, 0x67, 0xdc, 0xea, 0x97, 0xf2, 0xcf, 0xce, 0xf0, 0xb4, 0xe6, 0x73]
  | 0x9 => [0x96, 0xac, 0x74, 0x22, 0xe7, 0xad, 0x35, 0x85, 0xe2, 0xf9, 0x37, 0xe8, 0x1c, 0x75, 0xdf, 0x6e]
  | 0xa => [0x47, 0xf1, 0x1a, 0x71, 0x1d, 0x29, 0xc5, 0x89, 0x6f, 0xb7, 0x62, 0x0e, 0xaa, 0x18, 0xbe, 0x1b]
  | 0xb => [0xfc, 0x56, 0x3e, 0x4b, 0xc6, 0xd2, 0x79, 0x20, 0x9a, 0xdb, 0xc0, 0xfe, 0x78, 0xcd, 0x5a, 0xf4]
  | 0xc => [0x1f, 0xdd, 0xa8, 0x33, 0x88, 0x07, 0xc7, 0x31, 0xb1, 0x12, 0x10, 0x59, 0x27, 0x80, 0xec, 0x5f]
  | 0xd => [0x60, 0x51, 0x7f, 0xa9, 0x19, 0xb5, 0x4a, 0x0d, 0x2d, 0xe5, 0x7a, 0x9f, 0x93, 0xc9, 0x9c, 0xef]
  | 0xe => [0xa0, 0xe0, 0x3b, 0x4d, 0xae, 0x2a, 0xf5, 0xb0, 0xc8, 0xeb, 0xbb, 0x3c, 0x83, 0x53, 0x99, 0x61]
  | _ => [0x17, 0x2b, 0x04, 0x7e, 0xba, 0x77, 0xd6, 0x26, 0xe1, 0x69, 0x14, 0x63, 0x55, 0x21, 0x0c, 0x7d]

/-- R124: `InvSbox(a)`, read from its table. -/
def invSbox (a : Byte) : Byte := (invSboxRow (a.toNat / 16)).getD (a.toNat % 16) 0

/-- A byte function on each of a column's four bytes. -/
def Col.map (f : Byte → Byte) (a : Col) : Col := ⟨f a.r0, f a.r1, f a.r2, f a.r3⟩

/-- XOR of two columns or words, byte by byte (R9). -/
def Col.xor (a b : Col) : Col := ⟨a.r0 ^^^ b.r0, a.r1 ^^^ b.r1, a.r2 ^^^ b.r2, a.r3 ^^^ b.r3⟩

/-- R125: SubBytes. -/
def subBytes (s : AesState) : AesState := ⟨s.c0.map sbox, s.c1.map sbox, s.c2.map sbox, s.c3.map sbox⟩

/-- R125: InvSubBytes. -/
def invSubBytes (s : AesState) : AesState :=
  ⟨s.c0.map invSbox, s.c1.map invSbox, s.c2.map invSbox, s.c3.map invSbox⟩

/-- R126: ShiftRows, `s'[r][c] = s[r][(c + r) mod 4]`. -/
def shiftRows (s : AesState) : AesState where
  c0 := ⟨s.c0.r0, s.c1.r1, s.c2.r2, s.c3.r3⟩
  c1 := ⟨s.c1.r0, s.c2.r1, s.c3.r2, s.c0.r3⟩
  c2 := ⟨s.c2.r0, s.c3.r1, s.c0.r2, s.c1.r3⟩
  c3 := ⟨s.c3.r0, s.c0.r1, s.c1.r2, s.c2.r3⟩

/-- R126: InvShiftRows, `s'[r][(c + r) mod 4] = s[r][c]`. -/
def invShiftRows (s : AesState) : AesState where
  c0 := ⟨s.c0.r0, s.c3.r1, s.c2.r2, s.c1.r3⟩
  c1 := ⟨s.c1.r0, s.c0.r1, s.c3.r2, s.c2.r3⟩
  c2 := ⟨s.c2.r0, s.c1.r1, s.c0.r2, s.c3.r3⟩
  c3 := ⟨s.c3.r0, s.c2.r1, s.c1.r2, s.c0.r3⟩

/-- One row of a column product: `m0•a0 ⊕ m1•a1 ⊕ m2•a2 ⊕ m3•a3` (R127). -/
def mixRow (m0 m1 m2 m3 : Byte) (a : Col) : Byte :=
  gfMul m0 a.r0 ^^^ gfMul m1 a.r1 ^^^ gfMul m2 a.r2 ^^^ gfMul m3 a.r3

/-- R127: MixColumns on one column. -/
def mixCol (a : Col) : Col :=
  ⟨mixRow 2 3 1 1 a, mixRow 1 2 3 1 a, mixRow 1 1 2 3 a, mixRow 3 1 1 2 a⟩

/-- R127: InvMixColumns on one column. -/
def invMixCol (a : Col) : Col :=
  ⟨mixRow 0x0E 0x0B 0x0D 0x09 a, mixRow 0x09 0x0E 0x0B 0x0D a, mixRow 0x0D 0x09 0x0E 0x0B a,
   mixRow 0x0B 0x0D 0x09 0x0E a⟩

/-- R127: MixColumns. -/
def mixColumns (s : AesState) : AesState := ⟨mixCol s.c0, mixCol s.c1, mixCol s.c2, mixCol s.c3⟩

/-- R127: InvMixColumns. -/
def invMixColumns (s : AesState) : AesState := ⟨invMixCol s.c0, invMixCol s.c1, invMixCol s.c2, invMixCol s.c3⟩

/-- R128: AddRoundKey with the four words of a round key. -/
def addRoundKey (s k : AesState) : AesState := ⟨s.c0.xor k.c0, s.c1.xor k.c1, s.c2.xor k.c2, s.c3.xor k.c3⟩

/-- R129: `RotWord([a0,a1,a2,a3]) = [a1,a2,a3,a0]`. -/
def rotWord (a : Col) : Col := ⟨a.r1, a.r2, a.r3, a.r0⟩

/-- R130: the constant `rc_j`, for j ≥ 1: `rc_1 = 1` and `rc_(j+1) = xtime(rc_j)`. -/
def roundConst : Nat → Byte
  | 0 => 0
  | 1 => 0x01
  | j + 2 => xtime (roundConst (j + 1))

/-- R129, four words at a time: round key `r` from round key `r - 1`. Its first word (`i mod 4 = 0`) takes
`SubWord(RotWord(w[i-1])) ⊕ Rcon[i/4]`, the other three the word before. -/
def nextRoundKey (r : Nat) (k : AesState) : AesState :=
  let w0 := k.c0.xor (((rotWord k.c3).map sbox).xor ⟨roundConst r, 0, 0, 0⟩)
  let w1 := k.c1.xor w0
  let w2 := k.c2.xor w1
  ⟨w0, w1, w2, k.c3.xor w2⟩

/-- R128, R129: round key `r` of key `K`, the words `w[4r..4r+3]`. -/
def roundKey (k : Key) : Nat → AesState
  | 0 => aesLoad k
  | r + 1 => nextRoundKey (r + 1) (roundKey k r)

/-- R132: the rounds 1 to `n`, each SubBytes, ShiftRows, MixColumns, AddRoundKey, after the first AddRoundKey. -/
def encRounds (k : Key) (s : AesState) : Nat → AesState
  | 0 => addRoundKey s (roundKey k 0)
  | r + 1 => addRoundKey (mixColumns (shiftRows (subBytes (encRounds k s r)))) (roundKey k (r + 1))

/-- R132: `AES128_Enc(K, B)`. -/
def aesEnc (k : Key) (b : Block) : Block :=
  aesStore (addRoundKey (shiftRows (subBytes (encRounds k (aesLoad b) 9))) (roundKey k 10))

/-- R133: the inverse rounds `n` down to 1, each InvShiftRows, InvSubBytes, AddRoundKey, InvMixColumns. -/
def decRounds (k : Key) (s : AesState) : Nat → AesState
  | 0 => s
  | r + 1 => decRounds k (invMixColumns (addRoundKey (invSubBytes (invShiftRows s)) (roundKey k (r + 1)))) r

/-- R133: `AES128_Dec(K, C)`. -/
def aesDec (k : Key) (c : Block) : Block :=
  let s := decRounds k (addRoundKey (aesLoad c) (roundKey k 10)) 9
  aesStore (addRoundKey (invSubBytes (invShiftRows s)) (roundKey k 0))

end Sys2Proof.Machine
end

