-- ==== Sys2Proof/Config.lean ====
section
/-! DEFINITION. The implementation parameters of spec/00_scope.md R7 that are values (`ARBITRATION`, an order of
inputs, is the order of `State.inputs`: log entry 1). They are plain data, carried by the state and written by no
input (R40, log entry 2), so that a statement about every state is a statement about every parameter value. -/

namespace Sys2Proof

/-- R7: the parameters the source leaves open. -/
structure Params where
  /-- `CCS_DISTINCT`: a type-7 response fails with CANNOT_CREATE_SESSION (true) or UNEXPECTED_MESSAGE_TYPE (false). -/
  ccsDistinct : Bool
  /-- `PAD_WHEN_ALIGNED`: a payload whose length is a multiple of 16 gets one more block of zero padding. -/
  padWhenAligned : Bool
  /-- `NUM_REQUESTERS`, at least 1: the number of host command requesters. -/
  numRequesters : Nat
  /-- `TXQ_DEPTH`, at least 20, or `none` where the output is unbounded. The machine does not read it: R34 gives the
  model's transport output no bound. -/
  txqDepth : Option Nat
deriving DecidableEq, Repr

/-- R7: the defaults. -/
def Params.default : Params where
  ccsDistinct := true
  padWhenAligned := false
  numRequesters := 1
  txqDepth := none

/-- R7: the ranges of the parameters. -/
abbrev Params.Legal (p : Params) : Prop := 1 ≤ p.numRequesters ∧ 20 ≤ p.txqDepth.getD 20

end Sys2Proof
end

