-- ==== Sys2Proof/Machine/State.lean ====
section
/-! DEFINITION. The state of the core: every register of spec/10_state.md R21 to R33 at its width, the contents of its
output channels (R34, R91), and three fields of the model's own (the inputs on offer, the requester being served, the
parameters). Nothing else is state (R20, R41): no program counter, no general registers, no memory. -/

namespace Sys2Proof.Machine

/-- R29: the handshake state. Codes 5, 6 and 7 are never held, so the type has five values (log entry 9). -/
inductive HsState where
  | disconnected
  | awaitNsAck
  | awaitSsAck
  | established
  | failed
deriving DecidableEq, Repr

/-- R30: the session error code. Codes 7..255 are never held, so the type has seven values (log entry 9). -/
inductive Err where
  | none
  | transportError
  | protocolMismatch
  | unexpectedMessageType
  | sessionIdentifierMismatch
  | cannotCreateSession
  | aborted
deriving DecidableEq, Repr

/-- R92: the status of a response. -/
inductive Status where
  | ok
  | invalidInput
  | badState
  | illegalCommand
deriving DecidableEq, Repr

/-- R34: one event of the transport output. -/
inductive TxEvent where
  | tx (b : Byte)
  | close
deriving DecidableEq, Repr

/-- R91, R286: a response frame and the requester it is answered to (log entry 10). -/
structure Response where
  requester : Nat
  bytes : List Byte
deriving DecidableEq, Repr

/-- The state. -/
structure State where
  /-- R21: LTK, the long-term key. -/
  ltk : Key
  /-- R22: LTK_VALID. -/
  ltkValid : Bool
  /-- R23: SID, the session identifier. -/
  sid : Sid
  /-- R24: SID_VALID. -/
  sidValid : Bool
  /-- R25: SK, the session key. -/
  sk : Key
  /-- R26: SK_VALID, session key present. -/
  skValid : Bool
  /-- R27: SEQ, the sequence counter. -/
  seq : Seq
  /-- R28: LAST_SEQ, the outstanding request's sequence number. -/
  lastSeq : Seq
  /-- R29: HS_STATE. -/
  hsState : HsState
  /-- R30: ERR. -/
  err : Err
  /-- R32: T_OPEN, transport attached and open. -/
  tOpen : Bool
  /-- R33: RXBUF, the receive buffer. -/
  rxBuf : RxBuf
  /-- R33: RX_CNT, the number of bytes of the current response accepted. -/
  rxCnt : BitVec 5
  /-- R34: the transport output, oldest event first. -/
  txOut : List TxEvent
  /-- R91: the responses given, oldest first. -/
  responses : List Response
  /-- The model's own: the inputs on offer, in the order `ARBITRATION` serializes them (R12, log entry 1). -/
  inputs : List Input
  /-- The model's own: the requester of the current command, to which `respond` answers (R10). -/
  requester : Nat
  /-- The model's own place for the parameters of R7; no input writes them (R40, log entry 2). -/
  params : Params
deriving DecidableEq, Repr

/-- Why the machine stops. -/
inductive Fault where
  /-- Raised by the step, not by any instruction, when the transport offers a failure of kind 3, which R102 says is
  never sent (log entry 6). Safe: the spec gives such an input no effect and no agent offers it. -/
  | errPortKind3
deriving DecidableEq, Repr

/-- Why an instruction has no meaning. -/
inductive Refusal where
  /-- Raised by an arm of the dispatch whose instruction has no meaning yet; no arm does. Safe: a run that meets it
  stops. -/
  | notModelled (mnemonic : String)
deriving DecidableEq, Repr

/-- R39, R300: every register at its reset value, the parameters at their defaults (R7). Nothing has been sent, answered
or offered yet (log entry 3). -/
def State.reset : State where
  ltk := Vector.replicate 16 0
  ltkValid := false
  sid := Vector.replicate 5 0
  sidValid := false
  sk := Vector.replicate 16 0
  skValid := false
  seq := 0x0000
  lastSeq := 0x0000
  hsState := .disconnected
  err := .none
  tOpen := false
  rxBuf := Vector.replicate 20 0
  rxCnt := 0
  txOut := []
  responses := []
  inputs := []
  requester := 0
  params := Params.default

end Sys2Proof.Machine
end

