-- ==== Sys2Proof/Machine/Flags.lean ====
section
/-! DEFINITION. The four status flags as the status view shows them (spec/10_state.md R35, R36). The block has no
arithmetic flags, and no command sets a flag beyond the writes its rule lists (R35). -/

namespace Sys2Proof.Machine

/-- A flag as a byte's bit 0. -/
def flagBit (f : Bool) : Byte := if f then 1 else 0

/-- R36: byte 1 of the status view, `(T_OPEN<<3) | (SK_VALID<<2) | (SID_VALID<<1) | LTK_VALID`; bits 7:4 read 0. -/
def flagsByte (s : State) : Byte :=
  (flagBit s.tOpen <<< 3) ||| (flagBit s.skValid <<< 2) ||| (flagBit s.sidValid <<< 1) ||| flagBit s.ltkValid

end Sys2Proof.Machine
end

