-- ==== Sys2Proof/Machine/Operands.lean ====
section
/-! DEFINITION. The codes of the state's enumerations, the response frame and the status view (spec/10_state.md R29, R30,
R36; spec/30_encoding.md R81, R82, R91, R92). -/

namespace Sys2Proof.Machine

/-- R29: the 3-bit code of HS_STATE. -/
def hsCode : HsState → BitVec 3
  | .disconnected => 0
  | .awaitNsAck => 1
  | .awaitSsAck => 2
  | .established => 3
  | .failed => 4

/-- R30: the 8-bit code of ERR. -/
def errCode : Err → Byte
  | .none => 0
  | .transportError => 1
  | .protocolMismatch => 2
  | .unexpectedMessageType => 3
  | .sessionIdentifierMismatch => 4
  | .cannotCreateSession => 5
  | .aborted => 6

/-- R92: the status values. -/
def statusCode : Status → Byte
  | .ok => 0x00
  | .invalidInput => 0x01
  | .badState => 0x02
  | .illegalCommand => 0x03

/-- R91: the response frame `STATUS ‖ RLEN ‖ DATA`. -/
def responseFrame (st : Status) (data : List Byte) : List Byte := statusCode st :: enc8 data.length :: data

/-- R36: the 8-byte status view. -/
def statusView (s : State) : List Byte :=
  [(hsCode s.hsState).setWidth 8, flagsByte s, errCode s.err, s.rxCnt.setWidth 8] ++ enc16 s.seq ++ enc16 s.lastSeq

/-- R81: the message types the block itself sends or expects. -/
def typeReqNewSession : Byte := 0x01
def typeAckNewSession : Byte := 0x02
def typeReqSecureSession : Byte := 0x03
def typeAckSecureSession : Byte := 0x04
def typeCannotCreateSession : Byte := 0x07

/-- R82: `needs_enc(t) = (t ∉ {0, 1, 2})`. -/
def needsEnc (t : Byte) : Bool := !(t == 0x00 || t == 0x01 || t == 0x02)

end Sys2Proof.Machine
end

