-- ==== Sys2Proof/Machine/Cipher.lean ====
section
/-! DEFINITION. The pure functions of the datapath: key derivation (spec/41_key_derivation.md R140), chaining
(spec/42_block_cipher_chaining.md R150, R151, R154), the framer (spec/43_packet_codec.md R170) and the counter's
successor (spec/44_sequence_counter.md R190). -/

namespace Sys2Proof.Machine

/-- R140: `KDF(L, S)`, the first 11 bytes of `L` unchanged and the last 5 XORed with `S`. -/
def kdf (l : Key) (s : Sid) : Key :=
  Vector.ofFn fun i => if h : i.val < 11 then l[i.val] else l[i.val] ^^^ s[i.val - 11]

/-- R150, R154: a block with byte 0 XORed with the sequence number's high byte and byte 1 with its low byte. -/
def whiten (h l : Byte) (x : Block) : Block := (x.set 0 (x[0] ^^^ h)).set 1 (x[1] ^^^ l)

/-- R151: the padded length of a payload of `n` bytes. -/
def padLen (padWhenAligned : Bool) (n : Nat) : Nat :=
  if padWhenAligned then 16 * (n / 16 + 1) else 16 * ((n + 15) / 16)

/-- R150: the padded payload `Q`. -/
def padded (padWhenAligned : Bool) (p : List Byte) : List Byte :=
  p ++ zeros (padLen padWhenAligned p.length - p.length)

/-- R150: the ciphertext of the first `n` 16-byte blocks of `q`, each whitened with the same two header bytes. -/
def chainBlocks (k : Key) (h l : Byte) : Nat → List Byte → List Byte
  | 0, _ => []
  | n + 1, q => (aesEnc k (whiten h l (field 16 q 0))).toList ++ chainBlocks k h l n (q.drop 16)

/-- R150: `ChainEnc(K, B)`: the 4 header bytes verbatim, then the encrypted blocks of the padded payload. -/
def chainEnc (padWhenAligned : Bool) (k : Key) (b : List Byte) : List Byte :=
  b.take 4 ++
    chainBlocks k (byteAt b 0) (byteAt b 1) (padLen padWhenAligned (b.length - 4) / 16)
      (padded padWhenAligned (b.drop 4))

/-- R154: `ChainDec(K, S, C)`. -/
def chainDec (k : Key) (s : Seq) (c : Block) : Block := whiten (hi8 s) (lo8 s) (aesDec k c)

/-- R80, R170: the 4-byte header, its reserved byte 0x00. -/
def packetHeader (s : Seq) (t : Byte) : List Byte := enc16 s ++ [t, 0x00]

/-- R170: `Frame(s, t, kp, K, P)`. -/
def frame (padWhenAligned : Bool) (s : Seq) (t : Byte) (kp : Bool) (k : Key) (p : List Byte) : List Byte :=
  if !kp then packetHeader s t
  else if !needsEnc t then packetHeader s t ++ p
  else chainEnc padWhenAligned k (packetHeader s t ++ p)

/-- R190: the number `seq_next()` returns, computed in 17 bits: one more than SEQ, and 1 where that exceeds 65535 (or
is below 1, which never happens). -/
def nextSeq (q : Seq) : Seq :=
  let t : BitVec 17 := q.setWidth 17 + 1
  if t.toNat > 65535 ∨ t.toNat < 1 then 1 else t.setWidth 16

end Sys2Proof.Machine
end

