-- ==== Sys2Proof/Machine/Ops.lean ====
section
/-! DEFINITION. The named operations every meaning is built from (spec/00_scope.md R10): responding, emitting, taking a
sequence number, failing a session (the block's one exception entry, spec/60_exceptions.md R275) and starting an empty
one (the way back, R282), and serving the inputs on offer (R12). -/

namespace Sys2Proof.Machine

/-- R10: `respond(st, D)`, answered to the requester of the current command. -/
def respond (st : Status) (data : List Byte) (s : State) : State :=
  { s with responses := s.responses ++ [⟨s.requester, responseFrame st data⟩] }

/-- R271: `raise CmdError(st)`: the 2-byte response and nothing else. -/
def cmdError (st : Status) (s : State) : State := respond st [] s

/-- R10: `emit_tx(B)`, one contiguous run. -/
def emitTx (b : List Byte) (s : State) : State := { s with txOut := s.txOut ++ b.map .tx }

/-- R10: `emit_close()`. -/
def emitClose (s : State) : State := { s with txOut := s.txOut ++ [.close] }

/-- R190: `seq_next()`, which writes SEQ; the number it returns is the new SEQ. -/
def seqNext (s : State) : State := { s with seq := nextSeq s.seq }

/-- R219, R275: the transport is closed if it is open, with one CLOSE event. -/
def closeTransport (s : State) : State := if s.tOpen then emitClose { s with tOpen := false } else s

/-- R275: `Fail(code)`: the first cause is kept, the state becomes FAILED and an open transport is closed. -/
def fail (code : Err) (s : State) : State :=
  if s.hsState = .failed then s else closeTransport { s with err := code, hsState := .failed }

/-- R219, R221: SID and SK are zeroed and invalidated. -/
def dropKeys (s : State) : State :=
  { s with sid := zeroVec 5, sidValid := false, sk := zeroVec 16, skValid := false }

/-- R221: an empty session on a freshly opened transport. LTK and LTK_VALID are kept (D19). -/
def emptySession (s : State) : State :=
  { dropKeys s with
    seq := 0, lastSeq := 0, rxBuf := zeroVec 20, rxCnt := 0, err := .none, tOpen := true, hsState := .disconnected }

/-- R300: every register at its reset value; the outputs, the offers and the parameters stay. -/
def resetRegisters (s : State) : State :=
  { State.reset with
    txOut := s.txOut, responses := s.responses, inputs := s.inputs, requester := s.requester, params := s.params }

/-- R209: the states in which the core takes RX bytes. -/
def awaiting (s : State) : Bool := s.hsState == .awaitNsAck || s.hsState == .awaitSsAck

/-- R209, R279: whether an input is enabled: an RX byte in the awaiting states, every other input always. -/
def enabled (s : State) : Input → Bool
  | .cmd _ _ => true
  | .rxByte _ => awaiting s
  | .tErr _ => true
  | .reset => true

/-- The first element of a list that satisfies `p`, and the list without it. -/
def takeFirst (p : Input → Bool) : List Input → Option (Input × List Input)
  | [] => none
  | i :: rest => if p i then some (i, rest) else (takeFirst p rest).map fun (j, others) => (j, i :: others)

/-- R10: the requester that a response to an input goes to; an event gets no response and changes nothing. -/
def servedRequester (old : Nat) : Input → Nat
  | .cmd r _ => r
  | .rxByte _ => old
  | .tErr _ => old
  | .reset => old

/-- R12: the first enabled input on offer, and the state in which it is served. Inputs that are not enabled wait. -/
def nextInput (s : State) : Option (Input × State) :=
  (takeFirst (enabled s) s.inputs).map fun (i, rest) =>
    (i, { s with inputs := rest, requester := servedRequester s.requester i })

/-- R255, R102: what an input that is no instruction does: a malformed frame answers INVALID_INPUT, and a failure of
kind 3 is never sent. -/
def rejectInput (e : DecodeError) (s : State) : Host.Outcome State Fault Refusal :=
  match e with
  | .tooShort => .next (cmdError .invalidInput s)
  | .lengthMismatch => .next (cmdError .invalidInput s)
  | .illegalLen => .next (cmdError .invalidInput s)
  | .keyPresent => .next (cmdError .invalidInput s)
  | .errPortKind3 => .fault .errPortKind3

/-- The state with one more input on offer, ahead of the others. -/
def offerFirst (i : Input) (s : State) : State := { s with inputs := i :: s.inputs }

end Sys2Proof.Machine
end

