-- ==== Sys2Proof/Machine/Control.lean ====
section
/-! DEFINITION. The control and status commands (spec/46_control.md R250 to R253). The decoder has made the length checks
(R96); a meaning makes the state check and has the effect. -/

namespace Sys2Proof.Machine

/-- R250: NOP. -/
def execNop (s : State) : Host.Outcome State Fault Refusal := .next (respond .ok [] s)

/-- R251: LOAD_LTK, in DISCONNECTED and FAILED only. -/
def execLoadLtk (l : Key) (s : State) : Host.Outcome State Fault Refusal :=
  if s.hsState = .disconnected ∨ s.hsState = .failed then
    .next (respond .ok [] { s with ltk := l, ltkValid := true })
  else .next (cmdError .badState s)

/-- R252: READ_STATUS, which has no side effect. -/
def execReadStatus (s : State) : Host.Outcome State Fault Refusal := .next (respond .ok (statusView s) s)

/-- R253: READ_SK, in ESTABLISHED only: `SK ‖ SID`. -/
def execReadSk (s : State) : Host.Outcome State Fault Refusal :=
  if s.hsState = .established then .next (respond .ok (s.sk.toList ++ s.sid.toList) s)
  else .next (cmdError .badState s)

end Sys2Proof.Machine
end

