-- ==== Sys2Proof/Machine/Counter.lean ====
section
/-! DEFINITION. The commands that take a sequence number for the host (spec/44_sequence_counter.md R192,
spec/43_packet_codec.md R177). -/

namespace Sys2Proof.Machine

/-- R192: SEQ_NEXT, legal in every state. -/
def execSeqNext (s : State) : Host.Outcome State Fault Refusal :=
  let s1 := seqNext s
  .next (respond .ok (enc16 s1.seq) s1)

/-- R177: SEND, in ESTABLISHED only: a fresh number, the packet framed under SK, and the number as the answer. -/
def execSend (t : Byte) (p : List Byte) (s : State) : Host.Outcome State Fault Refusal :=
  if s.hsState = .established then
    let s1 := seqNext s
    .next (respond .ok (enc16 s1.seq) (emitTx (frame s1.params.padWhenAligned s1.seq t true s1.sk p) s1))
  else .next (cmdError .badState s)

end Sys2Proof.Machine
end

