-- ==== Sys2Proof/Machine/Datapath.lean ====
section
/-! DEFINITION. The pure datapath commands (spec/41_key_derivation.md R141, spec/42_block_cipher_chaining.md R152, R155,
spec/43_packet_codec.md R172): legal in every state, reading no register and writing none. -/

namespace Sys2Proof.Machine

/-- R141: KDF. -/
def execKdf (l : Key) (sid : Sid) (s : State) : Host.Outcome State Fault Refusal :=
  .next (respond .ok (kdf l sid).toList s)

/-- R152: CHAIN_ENC. -/
def execChainEnc (k : Key) (buf : List Byte) (s : State) : Host.Outcome State Fault Refusal :=
  .next (respond .ok (chainEnc s.params.padWhenAligned k buf) s)

/-- R155: CHAIN_DEC. -/
def execChainDec (k : Key) (sq : Seq) (blk : Block) (s : State) : Host.Outcome State Fault Refusal :=
  .next (respond .ok (chainDec k sq blk).toList s)

/-- R172: FRAME. -/
def execFrame (sq : Seq) (t : Byte) (kp : Bool) (k : Key) (p : List Byte) (s : State) :
    Host.Outcome State Fault Refusal :=
  .next (respond .ok (frame s.params.padWhenAligned sq t kp k p) s)

end Sys2Proof.Machine
end

