-- ==== Sys2Proof/Machine/Handshake.lean ====
section
/-! DEFINITION. The handshake's internal transitions (spec/45_handshake.md R206, R210 to R216): T1, the acceptance of a
response byte, the header check, and the completion of the two exchanges. The steps run in the order each rule lists
them, and each sees the writes before it (D43). -/

namespace Sys2Proof.Machine

/-- R206 (T1): a fresh number, and the exchange-1 request framed with the key absent. -/
def startHandshake (s : State) : State :=
  let s1 := seqNext s
  let s2 := { s1 with lastSeq := s1.seq, rxCnt := 0 }
  let s3 := emitTx (frame s2.params.padWhenAligned s2.seq typeReqNewSession false (zeroVec 16) []) s2
  { s3 with hsState := .awaitNsAck }

/-- R211: the header check, at the 4th byte of a response: the echo, then type 7, then the expected type. The reserved
byte is not checked. -/
def headerCheck (expected : Byte) (s : State) : State :=
  if be16 s.rxBuf[0] s.rxBuf[1] ≠ s.lastSeq then fail .protocolMismatch s
  else if s.params.ccsDistinct ∧ s.rxBuf[2] = typeCannotCreateSession then fail .cannotCreateSession s
  else if s.rxBuf[2] ≠ expected then fail .unexpectedMessageType s
  else s

/-- R214 (T3): a fresh number, and the exchange-2 request encrypted under SK. RXBUF is not cleared. -/
def sendExchange2Request (s : State) : State :=
  let s1 := seqNext s
  let s2 := { s1 with lastSeq := s1.seq, rxCnt := 0 }
  emitTx (frame s2.params.padWhenAligned s2.seq typeReqSecureSession true s2.sk s2.sid.toList) s2

/-- R213 (T2): SID from response bytes 6..10, SK derived from it, and at once the exchange-2 request. -/
def completeExchange1 (s : State) : State :=
  let sid := field 5 s.rxBuf.toList 6
  sendExchange2Request
    { s with sid := sid, sidValid := true, sk := kdf s.ltk sid, skValid := true, hsState := .awaitSsAck }

/-- R216 (T4): the decrypted block's first 5 bytes must equal SID. -/
def completeExchange2 (s : State) : State :=
  let p := chainDec s.sk (be16 s.rxBuf[0] s.rxBuf[1]) (field 16 s.rxBuf.toList 4)
  if field 5 p.toList 0 ≠ s.sid then fail .sessionIdentifierMismatch s else { s with hsState := .established }

/-- R210: the byte is stored and counted (RX_CNT above 19 is never held while awaiting: log entry 5). -/
def storeByte (b : Byte) (s : State) : State :=
  { s with rxBuf := s.rxBuf.setIfInBounds s.rxCnt.toNat b, rxCnt := s.rxCnt + 1 }

/-- R210: the acceptance of a byte: store it, check the header at n = 4, complete exchange 1 at n = 11 and exchange 2 at
n = 20. A failed header check leaves FAILED, so that neither later arm fires. -/
def acceptByte (b : Byte) (s : State) : State :=
  let s1 := storeByte b s
  let n := s1.rxCnt
  let s2 :=
    if n = 4 then
      headerCheck (if s1.hsState = .awaitNsAck then typeAckNewSession else typeAckSecureSession) s1
    else s1
  let s3 := if s2.hsState = .awaitNsAck ∧ n = 11 then completeExchange1 s2 else s2
  if s3.hsState = .awaitSsAck ∧ n = 20 then completeExchange2 s3 else s3

end Sys2Proof.Machine
end

