-- ==== Sys2Proof/Machine/Events.lean ====
section
/-! DEFINITION. The transport and platform inputs (spec/45_handshake.md R208 to R210, R217;
spec/70_reset_and_hazards.md R300). None of them gets a response (R102). -/

namespace Sys2Proof.Machine

/-- R209, R210: RxByte. Outside the awaiting states the input is not enabled and the byte stays with the transport: it
is on offer again, ahead of the inputs offered after it (log entry 4). -/
def execRxByte (b : Byte) (s : State) : Host.Outcome State Fault Refusal :=
  if awaiting s then .next (acceptByte b s) else .next (offerFirst (.rxByte b) s)

/-- R217: whether a transport failure fails the session: always, but in FAILED and in DISCONNECTED with no transport. -/
def failureMatters (s : State) : Bool :=
  match s.hsState with
  | .awaitNsAck => true
  | .awaitSsAck => true
  | .established => true
  | .disconnected => s.tOpen
  | .failed => false

/-- R217: TErr. All three kinds have the same effect. -/
def execTErr (_ : TErrKind) (s : State) : Host.Outcome State Fault Refusal :=
  if failureMatters s then .next (fail .transportError s) else .next s

/-- R300: Reset. -/
def execReset (s : State) : Host.Outcome State Fault Refusal := .next (resetRegisters s)

end Sys2Proof.Machine
end

