-- ==== Sys2Proof/Machine/Reserved.lean ====
section
/-! DEFINITION. The reserved opcodes (spec/46_control.md R254): each answers ILLEGAL_COMMAND whatever bytes follow it,
with no other effect. One definition per row of the opcode table. -/

namespace Sys2Proof.Machine

/-- R254: the answer of a reserved opcode. -/
def illegalCommand (s : State) : Host.Outcome State Fault Refusal := .next (cmdError .illegalCommand s)

/-- R254: opcode 0x07. -/
def execReserved07 (_ : Byte) (_ : List Byte) (s : State) : Host.Outcome State Fault Refusal := illegalCommand s

/-- R254: opcode 0x08..0x0F. -/
def execReserved08 (_ : BitVec 3) (_ : Byte) (_ : List Byte) (s : State) : Host.Outcome State Fault Refusal := illegalCommand s

/-- R254: opcode 0x15. -/
def execReserved15 (_ : Byte) (_ : List Byte) (s : State) : Host.Outcome State Fault Refusal := illegalCommand s

/-- R254: opcode 0x16..0x17. -/
def execReserved16 (_ : BitVec 1) (_ : Byte) (_ : List Byte) (s : State) : Host.Outcome State Fault Refusal := illegalCommand s

/-- R254: opcode 0x18..0x1F. -/
def execReserved18 (_ : BitVec 3) (_ : Byte) (_ : List Byte) (s : State) : Host.Outcome State Fault Refusal := illegalCommand s

/-- R254: opcode 0x21. -/
def execReserved21 (_ : Byte) (_ : List Byte) (s : State) : Host.Outcome State Fault Refusal := illegalCommand s

/-- R254: opcode 0x22..0x23. -/
def execReserved22 (_ : BitVec 1) (_ : Byte) (_ : List Byte) (s : State) : Host.Outcome State Fault Refusal := illegalCommand s

/-- R254: opcode 0x24..0x27. -/
def execReserved24 (_ : BitVec 2) (_ : Byte) (_ : List Byte) (s : State) : Host.Outcome State Fault Refusal := illegalCommand s

/-- R254: opcode 0x28..0x2F. -/
def execReserved28 (_ : BitVec 3) (_ : Byte) (_ : List Byte) (s : State) : Host.Outcome State Fault Refusal := illegalCommand s

/-- R254: opcode 0x30..0x3F. -/
def execReserved30 (_ : BitVec 4) (_ : Byte) (_ : List Byte) (s : State) : Host.Outcome State Fault Refusal := illegalCommand s

/-- R254: opcode 0x40..0x7F. -/
def execReserved40 (_ : BitVec 6) (_ : Byte) (_ : List Byte) (s : State) : Host.Outcome State Fault Refusal := illegalCommand s

/-- R254: opcode 0x80..0xFF. -/
def execReserved80 (_ : BitVec 7) (_ : Byte) (_ : List Byte) (s : State) : Host.Outcome State Fault Refusal := illegalCommand s

end Sys2Proof.Machine
end

