-- ==== Sys2Proof/Machine/Session.lean ====
section
/-! DEFINITION. The session commands (spec/45_handshake.md R205, R206, R219, R221). -/

namespace Sys2Proof.Machine

/-- R221: NEW_SESSION, in DISCONNECTED with no transport, and in FAILED. -/
def execNewSession (s : State) : Host.Outcome State Fault Refusal :=
  if (s.hsState = .disconnected ∧ s.tOpen = false) ∨ s.hsState = .failed then .next (respond .ok [] (emptySession s))
  else .next (cmdError .badState s)

/-- R205, R206: HS_START, in DISCONNECTED with an open transport and a long-term key. -/
def execHsStart (s : State) : Host.Outcome State Fault Refusal :=
  if s.hsState = .disconnected ∧ s.tOpen = true ∧ s.ltkValid = true then .next (respond .ok [] (startHandshake s))
  else .next (cmdError .badState s)

/-- R219: what CLOSE does in each state, before it answers. -/
def closeSession (s : State) : State :=
  match s.hsState with
  | .awaitNsAck => fail .aborted s
  | .awaitSsAck => fail .aborted s
  | .established => { dropKeys (emitClose { s with tOpen := false }) with hsState := .disconnected }
  | .disconnected => closeTransport s
  | .failed => s

/-- R219: CLOSE, legal in every state and always answered OK. -/
def execClose (s : State) : Host.Outcome State Fault Refusal := .next (respond .ok [] (closeSession s))

end Sys2Proof.Machine
end

