-- ==== Sys2Proof/Machine/Dispatch.lean ====
section
/-! DEFINITION. One arm per instruction. -/

namespace Sys2Proof.Machine

def exec (i : Instr) (s : State) : Host.Outcome State Fault Refusal :=
  match i with
  | .nop => Sys2Proof.Machine.execNop s
  | .loadLtk l => Sys2Proof.Machine.execLoadLtk l s
  | .newSession => Sys2Proof.Machine.execNewSession s
  | .hsStart => Sys2Proof.Machine.execHsStart s
  | .close => Sys2Proof.Machine.execClose s
  | .readStatus => Sys2Proof.Machine.execReadStatus s
  | .readSk => Sys2Proof.Machine.execReadSk s
  | .kdf l sid => Sys2Proof.Machine.execKdf l sid s
  | .chainEnc k buf => Sys2Proof.Machine.execChainEnc k buf s
  | .chainDec k sq blk => Sys2Proof.Machine.execChainDec k sq blk s
  | .frame sq t kp k p => Sys2Proof.Machine.execFrame sq t kp k p s
  | .send t p => Sys2Proof.Machine.execSend t p s
  | .seqNext => Sys2Proof.Machine.execSeqNext s
  | .reserved07 len rest => Sys2Proof.Machine.execReserved07 len rest s
  | .reserved08 x len rest => Sys2Proof.Machine.execReserved08 x len rest s
  | .reserved15 len rest => Sys2Proof.Machine.execReserved15 len rest s
  | .reserved16 x len rest => Sys2Proof.Machine.execReserved16 x len rest s
  | .reserved18 x len rest => Sys2Proof.Machine.execReserved18 x len rest s
  | .reserved21 len rest => Sys2Proof.Machine.execReserved21 len rest s
  | .reserved22 x len rest => Sys2Proof.Machine.execReserved22 x len rest s
  | .reserved24 x len rest => Sys2Proof.Machine.execReserved24 x len rest s
  | .reserved28 x len rest => Sys2Proof.Machine.execReserved28 x len rest s
  | .reserved30 x len rest => Sys2Proof.Machine.execReserved30 x len rest s
  | .reserved40 x len rest => Sys2Proof.Machine.execReserved40 x len rest s
  | .reserved80 x len rest => Sys2Proof.Machine.execReserved80 x len rest s
  | .rxByte b => Sys2Proof.Machine.execRxByte b s
  | .tErr k => Sys2Proof.Machine.execTErr k s
  | .reset => Sys2Proof.Machine.execReset s

end Sys2Proof.Machine
end

