-- ==== Sys2Proof/Machine/Step.lean ====
section
/-! DEFINITION. One step: the first enabled input on offer is served, atomically (spec/00_scope.md R12). -/

namespace Sys2Proof.Machine

/-- R12: serve the first enabled input: decode it and run its instruction, or answer its rejection. Where no enabled
input is on offer the core waits, with its state unchanged (log entry 4). -/
def step (s : State) : Host.Outcome State Fault Refusal :=
  match nextInput s with
  | none => .next s
  | some (input, s1) =>
    match decode input with
    | .ok i => exec i s1
    | .error e => rejectInput e s1

/-- The state with the input that a table word stands for on offer, ahead of every other input. -/
def State.withFetchWord (s : State) (nbits w : Nat) : State := offerFirst (tableInput nbits w) s

end Sys2Proof.Machine
end

