-- ==== Sys2Proof/Machine/Asm.lean ====
section
/-! DEFINITION. The assembler of spec/30_encoding.md R100 and R101: a line of text to the inputs it stands for. The
machine does not use it; it says which inputs the spec's programs are. What the rules leave open about blanks, commas and
the case of hex digits is log entry 11. -/

namespace Sys2Proof.Machine

/-- Why a line does not assemble. -/
inductive AsmError where
  /-- The line may start with `@r:`, and r must be a decimal number (R100). -/
  | requester
  /-- No line form of R100 or R101 has these words. -/
  | syntaxForm
  /-- An operand's length has no encoding (R93, R100). -/
  | length
deriving DecidableEq, Repr

/-- The value of a hex digit. -/
def hexDigit (c : Char) : Option Nat :=
  if '0' ≤ c ∧ c ≤ '9' then some (c.toNat - 48)
  else if 'a' ≤ c ∧ c ≤ 'f' then some (c.toNat - 87)
  else if 'A' ≤ c ∧ c ≤ 'F' then some (c.toNat - 55)
  else none

/-- R100: hex operands are whole bytes, index 0 first. -/
def hexBytes : List Char → Option (List Byte)
  | [] => some []
  | a :: b :: rest => do
    let high ← hexDigit a
    let low ← hexDigit b
    let bytes ← hexBytes rest
    some (BitVec.ofNat 8 (16 * high + low) :: bytes)
  | [_] => none

/-- A hex operand of exactly `n` bytes. -/
def hexField (n : Nat) (cs : List Char) : Option (Vector Byte n) := do
  let bytes ← hexBytes cs
  if bytes.length = n then some (field n bytes 0) else none

/-- The value of an operand written `name=value`. -/
def named (name : String) (word : List Char) : Option (List Char) :=
  if name.toList.isPrefixOf word then some (word.drop name.toList.length) else none

/-- A 16-bit operand, 4 hex digits. -/
def hexSeq (cs : List Char) : Option Seq := do
  let v ← hexField 2 cs
  some (be16 v[0] v[1])

/-- A one-byte operand, 2 hex digits. -/
def hexByte (cs : List Char) : Option Byte := do
  let v ← hexField 1 cs
  some v[0]

/-- What stands between the words of a line. -/
def isGap (c : Char) : Bool := c == ' ' || c == '\t' || c == '\r' || c == ','

/-- The words of a line; `word` is the one being read, its last character first. -/
def splitWords : List Char → List Char → List (List Char)
  | word, [] => if word.isEmpty then [] else [word.reverse]
  | word, c :: cs =>
    if isGap c then if word.isEmpty then splitWords [] cs else word.reverse :: splitWords [] cs
    else splitWords (c :: word) cs

/-- R100: KP and K of FRAME: `key=absent` is KP = 0 with K = zeros(16), `key=<hex>` is KP = 1 (R101). -/
def frameKey (cs : List Char) : Option (Bool × Key) :=
  if cs = "absent".toList then some (false, zeroVec 16) else (hexField 16 cs).map fun k => (true, k)

/-- R100: the three kinds of TERR. -/
def errKind (cs : List Char) : Option TErrKind :=
  if cs = "read".toList then some .read
  else if cs = "write".toList then some .write
  else if cs = "eof".toList then some .eof
  else none

/-- The lines with no operand. -/
def assembleBare (m : List Char) : Option Instr :=
  if m = "NOP".toList then some .nop
  else if m = "NEW_SESSION".toList then some .newSession
  else if m = "HS_START".toList then some .hsStart
  else if m = "CLOSE".toList then some .close
  else if m = "READ_STATUS".toList then some .readStatus
  else if m = "READ_SK".toList then some .readSk
  else if m = "SEQ_NEXT".toList then some .seqNext
  else if m = "RESET".toList then some .reset
  else none

/-- The lines with one operand; `RX` is one RXB for each byte, in order (R101). -/
def assembleOne (m a : List Char) : Option (List Instr) :=
  if m = "LOAD_LTK".toList then (hexField 16 a).map fun l => [.loadLtk l]
  else if m = "RXB".toList then (hexByte a).map fun b => [.rxByte b]
  else if m = "RX".toList then (hexBytes a).map fun bytes => bytes.map .rxByte
  else if m = "TERR".toList then (errKind a).map fun k => [.tErr k]
  else none

/-- The lines with two operands. -/
def assembleTwo (m a b : List Char) : Option Instr :=
  if m = "KDF".toList then do
    let l ← (named "ltk=" a).bind (hexField 16)
    let sid ← (named "sid=" b).bind (hexField 5)
    some (.kdf l sid)
  else if m = "CHAIN_ENC".toList then do
    let k ← (named "key=" a).bind (hexField 16)
    let buf ← (named "buf=" b).bind hexBytes
    some (.chainEnc k buf)
  else if m = "SEND".toList then do
    let t ← (named "type=" a).bind hexByte
    let p ← (named "payload=" b).bind hexBytes
    some (.send t p)
  else none

/-- CHAIN_DEC, the line with three operands. -/
def assembleThree (m a b c : List Char) : Option Instr :=
  if m = "CHAIN_DEC".toList then do
    let k ← (named "key=" a).bind (hexField 16)
    let sq ← (named "seq=" b).bind hexSeq
    let blk ← (named "blk=" c).bind (hexField 16)
    some (.chainDec k sq blk)
  else none

/-- FRAME, the line with four operands. -/
def assembleFour (m a b c d : List Char) : Option Instr :=
  if m = "FRAME".toList then do
    let sq ← (named "seq=" a).bind hexSeq
    let t ← (named "type=" b).bind hexByte
    let key ← (named "key=" c).bind frameKey
    let p ← (named "payload=" d).bind hexBytes
    some (.frame sq t key.1 key.2 p)
  else none

/-- R100: the instructions of a line's words; an empty line has none. -/
def assembleWords : List (List Char) → Option (List Instr)
  | [] => some []
  | [m] => (assembleBare m).map fun i => [i]
  | [m, a] => assembleOne m a
  | [m, a, b] => (assembleTwo m a b).map fun i => [i]
  | [m, a, b, c] => (assembleThree m a b c).map fun i => [i]
  | [m, a, b, c, d] => (assembleFour m a b c d).map fun i => [i]
  | _ => none

/-- A decimal number, read after `acc`. -/
def decimal : Nat → List Char → Option Nat
  | acc, [] => some acc
  | acc, c :: cs => if '0' ≤ c ∧ c ≤ '9' then decimal (10 * acc + (c.toNat - 48)) cs else none

/-- R100: a line may start with `@r:`, which names the requester; without it the requester is 0. After `@r:` a line has an
input. -/
def splitRequester (cs : List Char) : Option (Nat × List Char) :=
  match cs.dropWhile isGap with
  | '@' :: rest =>
    let digits := rest.takeWhile (· ≠ ':')
    let command := rest.drop (digits.length + 1)
    if digits.isEmpty ∨ command.all isGap then none else (decimal 0 digits).map fun r => (r, command)
  | others => some (0, others)

/-- R100: the inputs of one line, its comment dropped, each command as the frame of R90. -/
def assembleLine (line : String) : Except AsmError (List Input) :=
  match splitRequester (line.toList.takeWhile (· ≠ ';')) with
  | none => .error .requester
  | some (r, cs) =>
    match assembleWords (splitWords [] cs) with
    | none => .error .syntaxForm
    | some is => if is.all WellFormed then .ok (is.map (encode r)) else .error .length

/-- R100: a program is a list of lines; its inputs in order. -/
def assemble : List String → Except AsmError (List Input)
  | [] => .ok []
  | line :: lines =>
    match assembleLine line, assemble lines with
    | .ok a, .ok b => .ok (a ++ b)
    | .error e, _ => .error e
    | .ok _, .error e => .error e

/-- The hex digit of a number below 16. -/
def hexChar (n : Nat) : Char := Char.ofNat (if n < 10 then 48 + n else 87 + n)

/-- R100: bytes as hex digits, index 0 first. -/
def hexChars : List Byte → List Char
  | [] => []
  | b :: bytes => hexChar (b.toNat / 16) :: hexChar (b.toNat % 16) :: hexChars bytes

/-- R100: bytes as the text of a hex operand. -/
def hexText (bytes : List Byte) : String := String.ofList (hexChars bytes)

/-- A number's decimal digits, the most significant first, as text. -/
def decimalText (digits : List (Fin 10)) : String := String.ofList (digits.map fun d => hexChar d.val)

/-- The number that decimal digits write. -/
def decimalValue (digits : List (Fin 10)) : Nat := digits.foldl (fun n d => 10 * n + d.val) 0

/-- R100, R101: the line that writes an instruction, in R100's form for it. A reserved opcode has no line, and
`key=absent` writes the key zeros(16) only. -/
def lineText : Instr → Option String
  | .nop => some "NOP"
  | .loadLtk l => some ("LOAD_LTK " ++ hexText l.toList)
  | .newSession => some "NEW_SESSION"
  | .hsStart => some "HS_START"
  | .close => some "CLOSE"
  | .readStatus => some "READ_STATUS"
  | .readSk => some "READ_SK"
  | .kdf l sid => some ("KDF ltk=" ++ hexText l.toList ++ ", sid=" ++ hexText sid.toList)
  | .chainEnc k buf => some ("CHAIN_ENC key=" ++ hexText k.toList ++ ", buf=" ++ hexText buf)
  | .chainDec k sq blk =>
    some ("CHAIN_DEC key=" ++ hexText k.toList ++ ", seq=" ++ hexText (enc16 sq) ++ ", blk=" ++ hexText blk.toList)
  | .frame sq t true k p =>
    some ("FRAME seq=" ++ hexText (enc16 sq) ++ ", type=" ++ hexText [t] ++ ", key=" ++ hexText k.toList ++
      ", payload=" ++ hexText p)
  | .frame sq t false k p =>
    if k = zeroVec 16 then
      some ("FRAME seq=" ++ hexText (enc16 sq) ++ ", type=" ++ hexText [t] ++ ", key=absent, payload=" ++ hexText p)
    else none
  | .send t p => some ("SEND type=" ++ hexText [t] ++ ", payload=" ++ hexText p)
  | .seqNext => some "SEQ_NEXT"
  | .reserved07 _ _ => none
  | .reserved08 _ _ _ => none
  | .reserved15 _ _ => none
  | .reserved16 _ _ _ => none
  | .reserved18 _ _ _ => none
  | .reserved21 _ _ => none
  | .reserved22 _ _ _ => none
  | .reserved24 _ _ _ => none
  | .reserved28 _ _ _ => none
  | .reserved30 _ _ _ => none
  | .reserved40 _ _ _ => none
  | .reserved80 _ _ _ => none
  | .rxByte b => some ("RXB " ++ hexText [b])
  | .tErr .read => some "TERR read"
  | .tErr .write => some "TERR write"
  | .tErr .eof => some "TERR eof"
  | .reset => some "RESET"

end Sys2Proof.Machine
end

