-- ==== Sys2Proof/Safety.lean ====
section
/-! DEFINITION. The terms statements use: the invariants of spec/10_state.md R38, the legal LENs and reserved opcodes as
spec/30_encoding.md R93 and R95 tabulate them, which inputs the agents may offer, and the RX bytes still with the
transport. -/

namespace Sys2Proof.Machine

/-- R38: the invariants of every reachable state (item 6 speaks of past inputs and is not a property of one state), and
R33's bound on RX_CNT. -/
structure Inv (s : State) : Prop where
  /-- R38, item 1. -/
  live : s.hsState = .awaitNsAck ∨ s.hsState = .awaitSsAck ∨ s.hsState = .established →
    s.tOpen = true ∧ s.ltkValid = true
  /-- R38, item 2. -/
  keyed : s.hsState = .awaitSsAck ∨ s.hsState = .established →
    s.sidValid = true ∧ s.skValid = true ∧ s.sk = kdf s.ltk s.sid
  /-- R38, item 3. -/
  valid_iff : s.skValid = true ↔ s.sidValid = true
  /-- R38, item 4. -/
  err_iff : s.err ≠ .none ↔ s.hsState = .failed
  /-- R38, item 5. -/
  failed_closed : s.hsState = .failed → s.tOpen = false
  /-- R38, item 7. -/
  count_ns : s.hsState = .awaitNsAck → s.rxCnt.toNat ≤ 10
  /-- R38, item 7. -/
  count_ss : s.hsState = .awaitSsAck → s.rxCnt.toNat ≤ 19
  /-- R38, item 7. -/
  count_est : s.hsState = .established → s.rxCnt.toNat = 20
  /-- R38, item 8. -/
  echo : s.hsState = .awaitNsAck ∨ s.hsState = .awaitSsAck → 4 ≤ s.rxCnt.toNat →
    be16 s.rxBuf[0] s.rxBuf[1] = s.lastSeq
  /-- R33: RX_CNT holds values 0..20. -/
  count : s.rxCnt.toNat ≤ 20

/-- R95: the reserved values of OPC, 0x07..0x0F, 0x15..0x1F and 0x21..0xFF. -/
abbrev ReservedOpcode (opc : Byte) : Prop :=
  (0x07 ≤ opc ∧ opc ≤ 0x0F) ∨ (0x15 ≤ opc ∧ opc ≤ 0x1F) ∨ 0x21 ≤ opc

/-- R93: the legal LEN column. -/
abbrev LegalLen (opc : Byte) (len : Nat) : Prop :=
  if opc = 0x01 then len = 16
  else if opc = 0x10 then len = 21
  else if opc = 0x11 then 20 ≤ len
  else if opc = 0x12 then len = 34
  else if opc = 0x13 then 20 ≤ len
  else if opc = 0x14 then 1 ≤ len
  else len = 0

/-- R96, R255: the frames whose decode checks fail with INVALID_INPUT: too short to hold OPC and LEN, or, of an opcode
that is not reserved, a byte count that disagrees with LEN, an illegal LEN, or a KP of FRAME that is neither 0 nor 1. -/
abbrev Malformed (bytes : List Byte) : Prop :=
  bytes.length < 2 ∨
    ¬ ReservedOpcode (byteAt bytes 0) ∧
      (bytes.length ≠ 2 + (byteAt bytes 1).toNat ∨ ¬ LegalLen (byteAt bytes 0) (byteAt bytes 1).toNat ∨
        byteAt bytes 0 = 0x13 ∧ byteAt bytes 5 ≠ 0x00 ∧ byteAt bytes 5 ≠ 0x01)

/-- R7, R102: the inputs an agent may offer: a command of one of the requesters, any RX byte, a failure of a kind that
is sent, Reset. -/
def LegalInput (p : Params) : Input → Prop
  | .cmd r _ => r < p.numRequesters
  | .rxByte _ => True
  | .tErr code => code ≠ 3
  | .reset => True

/-- Every input on offer is one an agent may offer. -/
def InputsLegal (s : State) : Prop := ∀ input ∈ s.inputs, LegalInput s.params input

/-- R71: the RX bytes offered and not yet taken, in arrival order. -/
def rxOffered : List Input → List Byte
  | [] => []
  | .rxByte b :: rest => b :: rxOffered rest
  | _ :: rest => rxOffered rest

/-- A command frame at the head of the offers is answered INVALID_INPUT, `01 00`, with no other effect (R255, R271). -/
def RefusesFrame (bytes : List Byte) : Prop :=
  ∀ (s : State) (r : Nat) (rest : List Input), s.inputs = .cmd r bytes :: rest →
    step s = .next
      { s with inputs := rest, requester := r, responses := s.responses ++ [⟨r, [0x01, 0x00]⟩] }

/-- R275, R277: what a session failure records: the cause, FAILED, and a closed transport with one CLOSE event if it
was open. Nothing else is touched. -/
def failedBy (code : Err) (s : State) : State :=
  { s with
    err := code, hsState := .failed, tOpen := false
    txOut := s.txOut ++ if s.tOpen = true then [.close] else [] }

/-- R210: the message type that the response being read must have. -/
def expectedType (s : State) : Byte := if s.hsState = .awaitNsAck then 0x02 else 0x04

/-- R211: the header check of the response being read fails with `code`, by its first three bytes: the echo, then type 7
where CCS_DISTINCT, then the expected type. -/
def HeaderFails (s : State) (code : Err) : Prop :=
  be16 s.rxBuf[0] s.rxBuf[1] ≠ s.lastSeq ∧ code = .protocolMismatch ∨
  be16 s.rxBuf[0] s.rxBuf[1] = s.lastSeq ∧
    ((s.params.ccsDistinct = true ∧ s.rxBuf[2] = 0x07) ∧ code = .cannotCreateSession ∨
      ¬ (s.params.ccsDistinct = true ∧ s.rxBuf[2] = 0x07) ∧ s.rxBuf[2] ≠ expectedType s ∧
        code = .unexpectedMessageType)

/-- R211: the header check of the response being read passes. -/
def HeaderPasses (s : State) : Prop :=
  be16 s.rxBuf[0] s.rxBuf[1] = s.lastSeq ∧ s.rxBuf[2] = expectedType s

/-- R216: the block of the exchange-2 response whose last byte is `b` decrypts, under SK and the echoed number, to 16
bytes whose first five are SID. -/
def SidMatches (s : State) (b : Byte) : Prop :=
  ∀ (i : Nat) (h : i < 5),
    (chainDec s.sk (be16 s.rxBuf[0] s.rxBuf[1])
      (Vector.ofFn fun j : Fin 16 => if hj : j.val < 15 then s.rxBuf[4 + j.val] else b))[i] = s.sid[i]

/-- A response appended for the requester of the current command, and nothing else. -/
def answered (bytes : List Byte) (s : State) : State :=
  { s with responses := s.responses ++ [⟨s.requester, bytes⟩] }

/-- A run of `k` steps that meets no stop. -/
def RunsFor (k : Nat) (s : State) : Prop := ∃ t, Host.Core.run Sys2Proof.core k s = .next t

end Sys2Proof.Machine
end

