-- ==== Sys2Proof/Certificates/Slice0/Obligations.lean ====
section
/-! DEFINITION. The statements for the provers, in the order of OBLIGATIONS.json. Each docstring names the rules of spec/
it formalises, or says that it is the model's choice. -/

open Sys2Proof Sys2Proof.Machine

/-- R90, R93, R95, R102: decoding the encoding of a well-formed instruction, by whatever requester, gives it back, with
every operand at every value. -/
def Obligations.DecodeEncodeRoundTrip : Prop :=
  ∀ (r : Nat) (i : Instr), WellFormed i = true → decode (encode r i) = .ok i

/-- R93, R95, R99: a frame that decodes is the one encoding of what it decodes to, that instruction is well-formed, and
the frame's first two bytes match its row of the opcode table. -/
def Obligations.FramesDecodeToTheirOnlyEncoding : Prop :=
  ∀ (r : Nat) (bytes : List Byte) (i : Instr), decode (.cmd r bytes) = .ok i →
    WellFormed i = true ∧ encode r i = .cmd r bytes ∧
      ∃ row, opcodeRow i = some row ∧ frameWord bytes &&& row.mask = row.val

/-- R95: no 16-bit word matches two different rows of the opcode table. -/
def Obligations.OpcodeRowsDoNotOverlap : Prop :=
  ∀ (i j : Instr) (p q : OpcodeRow) (w : BitVec 16), opcodeRow i = some p → opcodeRow j = some q →
    w &&& p.mask = p.val → w &&& q.mask = q.val → p = q

/-- R255: a malformed frame answers `01 00` and does nothing else. -/
def Obligations.MalformedFramesAnswerInvalidInput : Prop :=
  ∀ bytes : List Byte, Malformed bytes → RefusesFrame bytes

/-- R96: a frame decodes exactly where none of the decode checks fails. -/
def Obligations.EveryOtherFrameDecodes : Prop :=
  ∀ (r : Nat) (bytes : List Byte), (∃ i, decode (.cmd r bytes) = .ok i) ↔ ¬ Malformed bytes

/-- R254: a reserved opcode answers `03 00` whatever bytes follow it, and does nothing else; each reserved instruction
has that effect. A frame of the opcode alone, too short to be read, is malformed. -/
def Obligations.ReservedOpcodesAnswerIllegalCommand : Prop :=
  (∀ opc : Byte, RefusesFrame [opc]) ∧
  (∀ (s : State) (r : Nat) (opc len : Byte) (ops : List Byte) (rest : List Input),
    s.inputs = .cmd r (opc :: len :: ops) :: rest → ReservedOpcode opc →
    step s = .next
      { s with inputs := rest, requester := r, responses := s.responses ++ [⟨r, [0x03, 0x00]⟩] }) ∧
  ∀ (len : Byte) (rest : List Byte) (s : State),
    exec (.reserved07 len rest) s = .next (answered [0x03, 0x00] s) ∧
    (∀ x, exec (.reserved08 x len rest) s = .next (answered [0x03, 0x00] s)) ∧
    exec (.reserved15 len rest) s = .next (answered [0x03, 0x00] s) ∧
    (∀ x, exec (.reserved16 x len rest) s = .next (answered [0x03, 0x00] s)) ∧
    (∀ x, exec (.reserved18 x len rest) s = .next (answered [0x03, 0x00] s)) ∧
    exec (.reserved21 len rest) s = .next (answered [0x03, 0x00] s) ∧
    (∀ x, exec (.reserved22 x len rest) s = .next (answered [0x03, 0x00] s)) ∧
    (∀ x, exec (.reserved24 x len rest) s = .next (answered [0x03, 0x00] s)) ∧
    (∀ x, exec (.reserved28 x len rest) s = .next (answered [0x03, 0x00] s)) ∧
    (∀ x, exec (.reserved30 x len rest) s = .next (answered [0x03, 0x00] s)) ∧
    (∀ x, exec (.reserved40 x len rest) s = .next (answered [0x03, 0x00] s)) ∧
    (∀ x, exec (.reserved80 x len rest) s = .next (answered [0x03, 0x00] s))

/-- R103: the five worked lines assemble to the given frames, and those decode to the instructions meant. -/
def Obligations.WorkedEncodings : Prop :=
  ∀ (line : String) (bytes : List Byte) (i : Instr),
    (line, bytes, i) ∈ ([
      ("LOAD_LTK 000102030405060708090a0b0c0d0e0f",
        [0x01, 0x10, 0x00, 0x01, 0x02, 0x03, 0x04, 0x05, 0x06, 0x07, 0x08, 0x09, 0x0a, 0x0b, 0x0c, 0x0d, 0x0e, 0x0f],
        .loadLtk #v[0x00, 0x01, 0x02, 0x03, 0x04, 0x05, 0x06, 0x07, 0x08, 0x09, 0x0a, 0x0b, 0x0c, 0x0d, 0x0e, 0x0f]),
      ("HS_START", [0x03, 0x00], .hsStart),
      ("CHAIN_DEC key=000102030405060708090a0b0c0d0e0f, seq=1234, blk=69c4e0d86a7b0430d8cdb78070b4c55a",
        [0x12, 0x22, 0x00, 0x01, 0x02, 0x03, 0x04, 0x05, 0x06, 0x07, 0x08, 0x09, 0x0a, 0x0b, 0x0c, 0x0d, 0x0e, 0x0f,
          0x12, 0x34, 0x69, 0xc4, 0xe0, 0xd8, 0x6a, 0x7b, 0x04, 0x30, 0xd8, 0xcd, 0xb7, 0x80, 0x70, 0xb4, 0xc5, 0x5a],
        .chainDec #v[0x00, 0x01, 0x02, 0x03, 0x04, 0x05, 0x06, 0x07, 0x08, 0x09, 0x0a, 0x0b, 0x0c, 0x0d, 0x0e, 0x0f]
          0x1234 #v[0x69, 0xc4, 0xe0, 0xd8, 0x6a, 0x7b, 0x04, 0x30, 0xd8, 0xcd, 0xb7, 0x80, 0x70, 0xb4, 0xc5, 0x5a]),
      ("FRAME seq=0001, type=01, key=absent, payload=", [0x13, 0x14, 0x00, 0x01, 0x01, 0x00] ++ List.replicate 16 0,
        .frame 0x0001 0x01 false (Vector.replicate 16 0) []),
      ("SEQ_NEXT", [0x20, 0x00], .seqNext)] : List (String × List Byte × Instr)) →
    assembleLine line = .ok [.cmd 0 bytes] ∧ ∀ r, decode (.cmd r bytes) = .ok i

/-- R100, R101: the line that writes an instruction (`lineText`, R100's form for each), with or without a comment,
assembles to the encoding of exactly that instruction, by requester 0 or by the one whose digits stand after `@`, and is
refused where the operands' lengths have no encoding; `RX` gives one RxByte for each byte in order; a line gives no input
exactly where nothing but blanks (or commas, log entry 11) stands before its comment; a program gives its lines' inputs in
order. Whatever else assembles gives encodings of well-formed instructions, and more than one only as RX bytes. -/
def Obligations.LinesAssembleToTheirInstructions : Prop :=
  (∀ (i : Instr) (text comment : String), lineText i = some text →
    (comment = "" ∨ ∃ c : String, comment = ";" ++ c) →
    (WellFormed i = true →
      assembleLine (text ++ comment) = .ok [encode 0 i] ∧
      ∀ digits : List (Fin 10), digits ≠ [] →
        assembleLine ("@" ++ decimalText digits ++ ":" ++ text ++ comment) = .ok [encode (decimalValue digits) i]) ∧
    (WellFormed i = false → assembleLine (text ++ comment) = .error .length)) ∧
  (∀ (bytes : List Byte) (comment : String), bytes ≠ [] → (comment = "" ∨ ∃ c : String, comment = ";" ++ c) →
    assembleLine ("RX " ++ hexText bytes ++ comment) = .ok (bytes.map .rxByte)) ∧
  (∀ line : String, assembleLine line = .ok [] ↔ ∀ c ∈ line.toList.takeWhile (· ≠ ';'), isGap c = true) ∧
  (∀ (lines : List String) (outs : List (List Input)),
    List.Forall₂ (fun line out => assembleLine line = .ok out) lines outs → assemble lines = .ok outs.flatten) ∧
  ∀ (line : String) (inputs : List Input), assembleLine line = .ok inputs →
    (∀ input ∈ inputs, ∃ (r : Nat) (i : Instr), WellFormed i = true ∧ input = encode r i ∧ decode input = .ok i) ∧
    (inputs = [] ∨ (∃ input, inputs = [input]) ∨ ∃ bytes : List Byte, inputs = bytes.map .rxByte)

/-- A step runs the decoded instruction (R12, R96): it is that instruction's `exec`, in the state with its input taken off
the offers and, for a command, its requester current. That the input is the first enabled one of the list, with waiting RX
bytes passed over, is the model's choice (log entries 1 and 4): R12 leaves the order to `ARBITRATION`. -/
def Obligations.StepRunsDecodedInstruction : Prop :=
  ∀ (s : State) (before after : List Input) (input : Input) (i : Instr),
    s.inputs = before ++ input :: after → (∀ x ∈ before, enabled s x = false) → enabled s input = true →
    decode input = .ok i →
    (∀ r bytes, input = .cmd r bytes →
      step s = exec i { s with inputs := before ++ after, requester := r }) ∧
    ((∀ r bytes, input ≠ .cmd r bytes) → step s = exec i { s with inputs := before ++ after })

/-- The model's choice (log entry 4), from R12 and R301: with no enabled input on offer a step leaves the state as it is. -/
def Obligations.StepWaitsWithoutEnabledInput : Prop :=
  ∀ s : State, (∀ x ∈ s.inputs, enabled s x = false) → step s = .next s

/-- R71, R209: no step drops, duplicates or reorders an offered RX byte; a byte is taken only in an awaiting state, the
oldest first, and it is stored at RX_CNT. -/
def Obligations.RxBytesAreTakenInOrder : Prop :=
  ∀ s t : State, step s = .next t →
    rxOffered t.inputs = rxOffered s.inputs ∨
    (s.hsState = .awaitNsAck ∨ s.hsState = .awaitSsAck) ∧
      ∃ b, rxOffered s.inputs = b :: rxOffered t.inputs ∧ t.rxBuf = s.rxBuf.setIfInBounds s.rxCnt.toNat b

/-- R250: NOP answers OK and changes nothing; its one frame is `00 00`, and any other frame of its opcode is refused. -/
def Obligations.NopAnswersOk : Prop :=
  (∀ s : State, exec .nop s = .next (answered [0x00, 0x00] s)) ∧
  (∀ r, decode (.cmd r [0x00, 0x00]) = .ok .nop) ∧
  ∀ bytes : List Byte, bytes.head? = some 0x00 → bytes ≠ [0x00, 0x00] → RefusesFrame bytes

/-- R251: LOAD_LTK writes LTK and LTK_VALID in DISCONNECTED and FAILED, and answers BAD_STATE with no change elsewhere. -/
def Obligations.LoadLtkWritesKeyWhileIdle : Prop :=
  (∀ (l : Key) (s : State),
    (s.hsState = .disconnected ∨ s.hsState = .failed →
      exec (.loadLtk l) s = .next (answered [0x00, 0x00] { s with ltk := l, ltkValid := true })) ∧
    (s.hsState ≠ .disconnected ∧ s.hsState ≠ .failed →
      exec (.loadLtk l) s = .next (answered [0x02, 0x00] s))) ∧
  (∀ (r : Nat) (l : Key), decode (.cmd r (0x01 :: 0x10 :: l.toList)) = .ok (.loadLtk l)) ∧
  ∀ bytes : List Byte, bytes.head? = some 0x01 → (∀ l : Key, bytes ≠ 0x01 :: 0x10 :: l.toList) → RefusesFrame bytes

/-- R252: READ_STATUS answers the 8 bytes of R36 and changes nothing. -/
def Obligations.ReadStatusReturnsStatusView : Prop :=
  (∀ s : State, ∃ d : Vector Byte 8,
    exec .readStatus s = .next (answered (0x00 :: 0x08 :: d.toList) s) ∧
    d[0] = (match s.hsState with
      | .disconnected => 0
      | .awaitNsAck => 1
      | .awaitSsAck => 2
      | .established => 3
      | .failed => 4) ∧
    (∀ i < 8, d[1].getLsbD i = [s.ltkValid, s.sidValid, s.skValid, s.tOpen].getD i false) ∧
    d[2] = (match s.err with
      | .none => 0
      | .transportError => 1
      | .protocolMismatch => 2
      | .unexpectedMessageType => 3
      | .sessionIdentifierMismatch => 4
      | .cannotCreateSession => 5
      | .aborted => 6) ∧
    d[3].toNat = s.rxCnt.toNat ∧
    d[4].toNat * 256 + d[5].toNat = s.seq.toNat ∧
    d[6].toNat * 256 + d[7].toNat = s.lastSeq.toNat) ∧
  (∀ r, decode (.cmd r [0x05, 0x00]) = .ok .readStatus) ∧
  ∀ bytes : List Byte, bytes.head? = some 0x05 → bytes ≠ [0x05, 0x00] → RefusesFrame bytes

/-- R253: READ_SK answers SK and SID in ESTABLISHED, and BAD_STATE elsewhere, so also after a CLOSE in ESTABLISHED. -/
def Obligations.ReadSkOnlyWhenEstablished : Prop :=
  (∀ s : State,
    (s.hsState = .established →
      exec .readSk s = .next (answered (0x00 :: 0x15 :: (s.sk.toList ++ s.sid.toList)) s)) ∧
    (s.hsState ≠ .established → exec .readSk s = .next (answered [0x02, 0x00] s)) ∧
    (s.hsState = .established → ∀ t, exec .close s = .next t →
      t.hsState = .disconnected ∧ exec .readSk t = .next (answered [0x02, 0x00] t))) ∧
  (∀ r, decode (.cmd r [0x06, 0x00]) = .ok .readSk) ∧
  ∀ bytes : List Byte, bytes.head? = some 0x06 → bytes ≠ [0x06, 0x00] → RefusesFrame bytes

/-- R221: NEW_SESSION begins an empty session on an open transport, keeping the long-term key, or answers BAD_STATE. -/
def Obligations.NewSessionStartsEmpty : Prop :=
  (∀ s : State,
    (s.hsState = .disconnected ∧ s.tOpen = false ∨ s.hsState = .failed →
      exec .newSession s = .next (answered [0x00, 0x00]
        { s with
          sid := Vector.replicate 5 0, sidValid := false, sk := Vector.replicate 16 0, skValid := false
          seq := 0, lastSeq := 0, rxBuf := Vector.replicate 20 0, rxCnt := 0, err := .none, tOpen := true
          hsState := .disconnected })) ∧
    (¬ (s.hsState = .disconnected ∧ s.tOpen = false ∨ s.hsState = .failed) →
      exec .newSession s = .next (answered [0x02, 0x00] s))) ∧
  (∀ r, decode (.cmd r [0x02, 0x00]) = .ok .newSession) ∧
  ∀ bytes : List Byte, bytes.head? = some 0x02 → bytes ≠ [0x02, 0x00] → RefusesFrame bytes

/-- R205, R206: HS_START takes a fresh number and sends the 4-byte exchange-1 request, or answers BAD_STATE. -/
def Obligations.HsStartSendsExchangeOneRequest : Prop :=
  (∀ s : State,
    (s.hsState = .disconnected ∧ s.tOpen = true ∧ s.ltkValid = true →
      exec .hsStart s = .next (answered [0x00, 0x00]
        { s with
          seq := nextSeq s.seq, lastSeq := nextSeq s.seq, rxCnt := 0, hsState := .awaitNsAck
          txOut := s.txOut ++
            [.tx (hi8 (nextSeq s.seq)), .tx (lo8 (nextSeq s.seq)), .tx 0x01, .tx 0x00] })) ∧
    (¬ (s.hsState = .disconnected ∧ s.tOpen = true ∧ s.ltkValid = true) →
      exec .hsStart s = .next (answered [0x02, 0x00] s))) ∧
  (∀ r, decode (.cmd r [0x03, 0x00]) = .ok .hsStart) ∧
  ∀ bytes : List Byte, bytes.head? = some 0x03 → bytes ≠ [0x03, 0x00] → RefusesFrame bytes

/-- R219: what CLOSE does in each of the five states; it always answers OK. -/
def Obligations.CloseByState : Prop :=
  (∀ s : State,
    (s.hsState = .awaitNsAck ∨ s.hsState = .awaitSsAck →
      exec .close s = .next (answered [0x00, 0x00] (failedBy .aborted s))) ∧
    (s.hsState = .established →
      exec .close s = .next (answered [0x00, 0x00]
        { s with
          tOpen := false, txOut := s.txOut ++ [.close], sid := Vector.replicate 5 0, sidValid := false
          sk := Vector.replicate 16 0, skValid := false, hsState := .disconnected })) ∧
    (s.hsState = .disconnected →
      exec .close s = .next (answered [0x00, 0x00]
        { s with tOpen := false, txOut := s.txOut ++ if s.tOpen = true then [.close] else [] })) ∧
    (s.hsState = .failed → exec .close s = .next (answered [0x00, 0x00] s))) ∧
  (∀ r, decode (.cmd r [0x04, 0x00]) = .ok .close) ∧
  ∀ bytes : List Byte, bytes.head? = some 0x04 → bytes ≠ [0x04, 0x00] → RefusesFrame bytes

/-- R140, R141: KDF answers L with its last 5 bytes XORed with S, in every state, and writes nothing. -/
def Obligations.KdfCommandDerivesKey : Prop :=
  (∀ (l : Key) (sid : Sid) (s : State), ∃ k : Key,
    exec (.kdf l sid) s = .next (answered (0x00 :: 0x10 :: k.toList) s) ∧
    (∀ (i : Nat) (h : i < 11), k[i] = l[i]) ∧
    ∀ (j : Nat) (h : j < 5), k[11 + j] = l[11 + j] ^^^ sid[j]) ∧
  (∀ (r : Nat) (l : Key) (sid : Sid),
    decode (.cmd r (0x10 :: 0x15 :: (l.toList ++ sid.toList))) = .ok (.kdf l sid)) ∧
  ∀ bytes : List Byte, bytes.head? = some 0x10 →
    (∀ (l : Key) (sid : Sid), bytes ≠ 0x10 :: 0x15 :: (l.toList ++ sid.toList)) → RefusesFrame bytes

/-- R142: the corner cases of key derivation. -/
def Obligations.KdfCornerCases : Prop :=
  (∀ l : Key, kdf l (Vector.replicate 5 0) = l) ∧
  (∀ (l : Key) (s : Sid), kdf (kdf l s) s = l) ∧
  (∀ (l : Key) (s s' : Sid) (i : Nat) (h : i < 11), (kdf l s)[i] = (kdf l s')[i]) ∧
  kdf (Vector.replicate 16 0xff) (Vector.replicate 5 0xff) =
    #v[0xff, 0xff, 0xff, 0xff, 0xff, 0xff, 0xff, 0xff, 0xff, 0xff, 0xff, 0, 0, 0, 0, 0] ∧
  (∀ (l : Key) (s : Sid), (∀ (j : Nat) (h : j < 5), l[11 + j] = s[j]) →
    (∀ (j : Nat) (h : j < 5), (kdf l s)[11 + j] = 0) ∧
    ((∀ (i : Nat) (h : i < 11), l[i] = 0) → kdf l s = Vector.replicate 16 0))

/-- R134: under every key, AES-128 decryption undoes encryption and encryption undoes decryption, so encryption is a
permutation of the blocks. -/
def Obligations.AesDecryptionInvertsEncryption : Prop :=
  ∀ k : Key, (∀ b : Block, aesDec k (aesEnc k b) = b) ∧ (∀ b : Block, aesEnc k (aesDec k b) = b) ∧
    Function.Bijective (aesEnc k)

/-- R131: each inverse transformation undoes its forward form in either order, and AddRoundKey is its own inverse. -/
def Obligations.InverseRoundTransformations : Prop :=
  ∀ s k : AesState,
    invSubBytes (subBytes s) = s ∧ subBytes (invSubBytes s) = s ∧
    invShiftRows (shiftRows s) = s ∧ shiftRows (invShiftRows s) = s ∧
    invMixColumns (mixColumns s) = s ∧ mixColumns (invMixColumns s) = s ∧
    addRoundKey (addRoundKey s k) k = s

/-- R135: the two FIPS-197 known answers. -/
def Obligations.AesKnownAnswers : Prop :=
  aesEnc #v[0x00, 0x01, 0x02, 0x03, 0x04, 0x05, 0x06, 0x07, 0x08, 0x09, 0x0a, 0x0b, 0x0c, 0x0d, 0x0e, 0x0f]
      #v[0x00, 0x11, 0x22, 0x33, 0x44, 0x55, 0x66, 0x77, 0x88, 0x99, 0xaa, 0xbb, 0xcc, 0xdd, 0xee, 0xff] =
    #v[0x69, 0xc4, 0xe0, 0xd8, 0x6a, 0x7b, 0x04, 0x30, 0xd8, 0xcd, 0xb7, 0x80, 0x70, 0xb4, 0xc5, 0x5a] ∧
  aesEnc #v[0x2b, 0x7e, 0x15, 0x16, 0x28, 0xae, 0xd2, 0xa6, 0xab, 0xf7, 0x15, 0x88, 0x09, 0xcf, 0x4f, 0x3c]
      #v[0x32, 0x43, 0xf6, 0xa8, 0x88, 0x5a, 0x30, 0x8d, 0x31, 0x31, 0x98, 0xa2, 0xe0, 0x37, 0x07, 0x34] =
    #v[0x39, 0x25, 0x84, 0x1d, 0x02, 0xdc, 0x09, 0xfb, 0xdc, 0x11, 0x85, 0x97, 0x19, 0x6a, 0x0b, 0x32]

/-- R122, R123, R124: `gfInv` is the inverse in GF(2^8), the S-box table is the affine map of it, and the inverse table
inverts it. -/
def Obligations.SboxTablesFollowTheirFormula : Prop :=
  ∀ a : Byte, gfMul a (gfInv a) = (if a = 0 then 0 else 1) ∧ sbox a = sboxAffine (gfInv a) ∧ invSbox (sbox a) = a

/-- R151: the padded length is the payload's length rounded up to a multiple of 16, with one more block on multiples
when PAD_WHEN_ALIGNED; the two settings differ only there. -/
def Obligations.PaddedLengthRoundsUp : Prop :=
  ∀ n : Nat,
    (16 ∣ padLen false n ∧ n ≤ padLen false n ∧ padLen false n < n + 16) ∧
    (16 ∣ padLen true n ∧ n < padLen true n ∧ padLen true n ≤ n + 16) ∧
    (padLen false n ≠ padLen true n ↔ n % 16 = 0)

/-- R150, R152: CHAIN_ENC answers the 4 header bytes verbatim and then, for each 16-byte block of the zero-padded
payload, the AES encryption of the block with bytes 0 and 1 XORed with the header's first two bytes. It writes nothing. -/
def Obligations.ChainEncEncryptsEachBlock : Prop :=
  (∀ (k : Key) (b : List Byte) (s : State), 4 ≤ b.length → b.length ≤ 239 →
    ∃ out : List Byte,
      exec (.chainEnc k b) s = .next (answered (0x00 :: enc8 out.length :: out) s) ∧
      out.length ≤ 255 ∧
      out.length = 4 + padLen s.params.padWhenAligned (b.length - 4) ∧
      out.take 4 = b.take 4 ∧
      ∀ n, 16 * n < padLen s.params.padWhenAligned (b.length - 4) →
        (out.drop (4 + 16 * n)).take 16 =
          (aesEnc k (Vector.ofFn fun j => b.getD (4 + 16 * n + j.val) 0 ^^^
            (if j.val = 0 then b.getD 0 0 else if j.val = 1 then b.getD 1 0 else 0))).toList) ∧
  (∀ (r : Nat) (k : Key) (b : List Byte), 4 ≤ b.length → b.length ≤ 239 →
    decode (.cmd r (0x11 :: enc8 (16 + b.length) :: (k.toList ++ b))) = .ok (.chainEnc k b)) ∧
  ∀ bytes : List Byte, bytes.head? = some 0x11 →
    (∀ (k : Key) (b : List Byte), 4 ≤ b.length → b.length ≤ 239 →
      bytes ≠ 0x11 :: enc8 (16 + b.length) :: (k.toList ++ b)) → RefusesFrame bytes

/-- R154, R155: CHAIN_DEC answers the AES decryption of the block with bytes 0 and 1 XORed with the sequence number's
high and low byte. It writes nothing. -/
def Obligations.ChainDecDecryptsOneBlock : Prop :=
  (∀ (k : Key) (sq : Seq) (c : Block) (s : State), ∃ p : Block,
    exec (.chainDec k sq c) s = .next (answered (0x00 :: 0x10 :: p.toList) s) ∧
    p[0] = (aesDec k c)[0] ^^^ hi8 sq ∧ p[1] = (aesDec k c)[1] ^^^ lo8 sq ∧
    ∀ (i : Nat) (h : i < 16), 2 ≤ i → p[i] = (aesDec k c)[i]) ∧
  (∀ (r : Nat) (k : Key) (h l : Byte) (c : Block),
    decode (.cmd r (0x12 :: 0x22 :: (k.toList ++ [h, l] ++ c.toList))) = .ok (.chainDec k (be16 h l) c)) ∧
  ∀ bytes : List Byte, bytes.head? = some 0x12 →
    (∀ (k : Key) (h l : Byte) (c : Block), bytes ≠ 0x12 :: 0x22 :: (k.toList ++ [h, l] ++ c.toList)) →
    RefusesFrame bytes

/-- R156, item 2: decrypting with another sequence number changes only bytes 0 and 1, by the XOR of the two numbers. -/
def Obligations.WrongSequenceChangesTwoBytes : Prop :=
  ∀ (k : Key) (s s' : Seq) (c : Block),
    (chainDec k s' c)[0] = (chainDec k s c)[0] ^^^ hi8 (s ^^^ s') ∧
    (chainDec k s' c)[1] = (chainDec k s c)[1] ^^^ lo8 (s ^^^ s') ∧
    ∀ (i : Nat) (h : i < 16), 2 ≤ i → (chainDec k s' c)[i] = (chainDec k s c)[i]

/-- R157: decrypting a block of a chained packet with the packet's own sequence number gives back that block of the
zero-padded payload, and for a one-block payload the payload itself. -/
def Obligations.ChainDecryptionInvertsEncryption : Prop :=
  (∀ (pad : Bool) (k : Key) (s : Seq) (t r : Byte) (p : Block),
    chainDec k s (field 16 (chainEnc pad k (enc16 s ++ [t, r] ++ p.toList)) 4) = p) ∧
  ∀ (pad : Bool) (k : Key) (b : List Byte) (i : Nat), 4 ≤ b.length → 16 * i < padLen pad (b.length - 4) →
    chainDec k (be16 (b.getD 0 0) (b.getD 1 0)) (field 16 (chainEnc pad k b) (4 + 16 * i)) =
      field 16 (b.drop 4 ++ List.replicate (padLen pad (b.length - 4) - (b.length - 4)) 0) (16 * i)

/-- R159: inside one packet equal padded plaintext blocks give equal ciphertext blocks; across packets one plaintext
block gives different ciphertext blocks under different sequence numbers. -/
def Obligations.EcbWithinPacketDiversifiedAcross : Prop :=
  (∀ (pad : Bool) (k : Key) (b : List Byte) (i j : Nat), 4 ≤ b.length →
    16 * i < padLen pad (b.length - 4) → 16 * j < padLen pad (b.length - 4) →
    field 16 (padded pad (b.drop 4)) (16 * i) = field 16 (padded pad (b.drop 4)) (16 * j) →
    field 16 (chainEnc pad k b) (4 + 16 * i) = field 16 (chainEnc pad k b) (4 + 16 * j)) ∧
  ∀ (pad : Bool) (k : Key) (b c : List Byte) (i j : Nat), 4 ≤ b.length → 4 ≤ c.length →
    16 * i < padLen pad (b.length - 4) → 16 * j < padLen pad (c.length - 4) →
    field 16 (padded pad (b.drop 4)) (16 * i) = field 16 (padded pad (c.drop 4)) (16 * j) →
    b.take 2 ≠ c.take 2 →
    field 16 (chainEnc pad k b) (4 + 16 * i) ≠ field 16 (chainEnc pad k c) (4 + 16 * j)

/-- R170, R171, R172: FRAME answers the bare header with no key, header and plaintext for types 0, 1 and 2, and the
chained packet for every other type. It writes nothing. -/
def Obligations.FrameSelectsOneOfThreeForms : Prop :=
  (∀ (sq : Seq) (t : Byte) (k : Key) (p : List Byte) (s : State), p.length ≤ 235 →
    exec (.frame sq t false k p) s = .next (answered [0x00, 0x04, hi8 sq, lo8 sq, t, 0x00] s) ∧
    (t = 0x00 ∨ t = 0x01 ∨ t = 0x02 →
      exec (.frame sq t true k p) s =
        .next (answered ([0x00, enc8 (4 + p.length), hi8 sq, lo8 sq, t, 0x00] ++ p) s)) ∧
    (t ≠ 0x00 ∧ t ≠ 0x01 ∧ t ≠ 0x02 →
      exec (.frame sq t true k p) s =
        .next (answered ([0x00, enc8 (4 + padLen s.params.padWhenAligned p.length)] ++
          chainEnc s.params.padWhenAligned k ([hi8 sq, lo8 sq, t, 0x00] ++ p)) s) ∧
      (chainEnc s.params.padWhenAligned k ([hi8 sq, lo8 sq, t, 0x00] ++ p)).length =
        4 + padLen s.params.padWhenAligned p.length)) ∧
  (∀ (r : Nat) (h l t : Byte) (kp : Bool) (k : Key) (p : List Byte), p.length ≤ 235 →
    decode (.cmd r (0x13 :: enc8 (20 + p.length) :: ([h, l, t, if kp then 1 else 0] ++ k.toList ++ p))) =
      .ok (.frame (be16 h l) t kp k p)) ∧
  ∀ bytes : List Byte, bytes.head? = some 0x13 →
    (∀ (h l t : Byte) (kp : Bool) (k : Key) (p : List Byte), p.length ≤ 235 →
      bytes ≠ 0x13 :: enc8 (20 + p.length) :: ([h, l, t, if kp then 1 else 0] ++ k.toList ++ p)) →
    RefusesFrame bytes

/-- R191, R192: SEQ_NEXT increments SEQ, from 65535 to 1 and never to 0, and answers the new number, in every state. -/
def Obligations.SeqNextTakesTheNextNumber : Prop :=
  (∀ s : State, ∃ n : Seq,
    exec .seqNext s = .next (answered [0x00, 0x02, hi8 n, lo8 n] { s with seq := n }) ∧
    n = nextSeq s.seq ∧ n ≠ 0 ∧ n.toNat = if s.seq.toNat = 65535 then 1 else s.seq.toNat + 1) ∧
  (∀ r, decode (.cmd r [0x20, 0x00]) = .ok .seqNext) ∧
  ∀ bytes : List Byte, bytes.head? = some 0x20 → bytes ≠ [0x20, 0x00] → RefusesFrame bytes

/-- R194: from 0, the k-th number is ((k - 1) mod 65535) + 1; any 65535 consecutive numbers are distinct. -/
def Obligations.SequenceLaw : Prop :=
  (∀ k, 1 ≤ k → (nextSeq^[k] 0).toNat = (k - 1) % 65535 + 1) ∧
  ∀ (q : Seq) (i j : Nat), 1 ≤ i → i < j → j < i + 65535 → nextSeq^[i] q ≠ nextSeq^[j] q

/-- R193, R194: SEQ_NEXT commands of any requesters, in the order they are served, are answered consecutive numbers, one
each, and change nothing else. -/
def Obligations.SharedCounterHandsOutConsecutiveNumbers : Prop :=
  ∀ (rs : List Nat) (s : State) (rest : List Input),
    s.inputs = rs.map (fun r => .cmd r [0x20, 0x00]) ++ rest →
    Host.Core.run Sys2Proof.core rs.length s = .next
      { s with
        inputs := rest, requester := rs.getLast?.getD s.requester, seq := nextSeq^[rs.length] s.seq
        responses := s.responses ++ rs.zipIdx.map fun (r, k) =>
          ⟨r, [0x00, 0x02, hi8 (nextSeq^[k + 1] s.seq), lo8 (nextSeq^[k + 1] s.seq)]⟩ }

/-- R177: SEND, in ESTABLISHED, takes a fresh number, sends the packet framed under SK and answers the number; elsewhere
it answers BAD_STATE. -/
def Obligations.SendFramesUnderSessionKey : Prop :=
  (∀ (t : Byte) (p : List Byte) (s : State),
    (s.hsState = .established →
      exec (.send t p) s = .next (answered [0x00, 0x02, hi8 (nextSeq s.seq), lo8 (nextSeq s.seq)]
        { s with
          seq := nextSeq s.seq
          txOut := s.txOut ++ (frame s.params.padWhenAligned (nextSeq s.seq) t true s.sk p).map .tx })) ∧
    (s.hsState ≠ .established → exec (.send t p) s = .next (answered [0x02, 0x00] s))) ∧
  (∀ (r : Nat) (t : Byte) (p : List Byte), p.length ≤ 254 →
    decode (.cmd r (0x14 :: enc8 (1 + p.length) :: t :: p)) = .ok (.send t p)) ∧
  ∀ bytes : List Byte, bytes.head? = some 0x14 →
    (∀ (t : Byte) (p : List Byte), p.length ≤ 254 → bytes ≠ 0x14 :: enc8 (1 + p.length) :: t :: p) →
    RefusesFrame bytes

/-- R209: outside the awaiting states an RX byte is not taken; that it is then first on offer again is the model's
choice (log entry 4). -/
def Obligations.RxByteWaitsOutsideAwaitingStates : Prop :=
  ∀ (b : Byte) (s : State), s.hsState ≠ .awaitNsAck → s.hsState ≠ .awaitSsAck →
    exec (.rxByte b) s = .next { s with inputs := .rxByte b :: s.inputs }

/-- R210: in an awaiting state, a byte that neither ends the header (n = 4) nor completes its response (n = 11 in
AWAIT_NS_ACK, n = 20 in AWAIT_SS_ACK) is stored at RX_CNT and counted, and nothing else changes. -/
def Obligations.RxByteIsStoredAndCounted : Prop :=
  ∀ (b : Byte) (s : State), s.hsState = .awaitNsAck ∨ s.hsState = .awaitSsAck →
    s.rxCnt.toNat < 20 → s.rxCnt.toNat ≠ 3 → (s.hsState = .awaitNsAck → s.rxCnt.toNat ≠ 10) →
    (s.hsState = .awaitSsAck → s.rxCnt.toNat ≠ 19) →
    ∃ buf : RxBuf, exec (.rxByte b) s = .next { s with rxBuf := buf, rxCnt := s.rxCnt + 1 } ∧
      (s.rxCnt + 1).toNat = s.rxCnt.toNat + 1 ∧
      ∀ (i : Nat) (h : i < 20), buf[i] = if i = s.rxCnt.toNat then b else s.rxBuf[i]

/-- R211: at the 4th byte of a response, the echo, then type 7 (if CCS_DISTINCT), then the expected type are checked;
the first that does not hold fails the session. The 4th byte itself is not checked. -/
def Obligations.HeaderCheckFindsFirstFault : Prop :=
  ∀ (b expected : Byte) (s : State),
    s.hsState = .awaitNsAck ∧ expected = 0x02 ∨ s.hsState = .awaitSsAck ∧ expected = 0x04 → s.rxCnt = 3 →
    exec (.rxByte b) s = .next
      (if s.rxBuf[0].toNat * 256 + s.rxBuf[1].toNat ≠ s.lastSeq.toNat then
        failedBy .protocolMismatch { s with rxBuf := s.rxBuf.set 3 b, rxCnt := 4 }
      else if s.params.ccsDistinct = true ∧ s.rxBuf[2] = 0x07 then
        failedBy .cannotCreateSession { s with rxBuf := s.rxBuf.set 3 b, rxCnt := 4 }
      else if s.rxBuf[2] ≠ expected then
        failedBy .unexpectedMessageType { s with rxBuf := s.rxBuf.set 3 b, rxCnt := 4 }
      else { s with rxBuf := s.rxBuf.set 3 b, rxCnt := 4 })

/-- R213, R214: the 11th byte of the exchange-1 response sets SID and SK and sends the 20-byte exchange-2 request under
SK with a fresh number, all in one transition. -/
def Obligations.ExchangeOneDerivesKeyAndSendsRequest : Prop :=
  ∀ (b : Byte) (s : State), s.hsState = .awaitNsAck → s.rxCnt = 10 →
    ∀ (sid : Sid) (sk : Key) (n : Seq),
    sid = #v[s.rxBuf[6], s.rxBuf[7], s.rxBuf[8], s.rxBuf[9], b] → sk = kdf s.ltk sid → n = nextSeq s.seq →
    exec (.rxByte b) s = .next
      { s with
        rxBuf := s.rxBuf.set 10 b, rxCnt := 0, sid := sid, sidValid := true, sk := sk, skValid := true
        hsState := .awaitSsAck, seq := n, lastSeq := n
        txOut := s.txOut ++ ([hi8 n, lo8 n, 0x03, 0x00] ++
          (aesEnc sk #v[sid[0] ^^^ hi8 n, sid[1] ^^^ lo8 n, sid[2], sid[3], sid[4],
            0, 0, 0, 0, 0, 0, 0, 0, 0, 0, 0]).toList).map .tx }

/-- R216: the 20th byte of the exchange-2 response decrypts the block with the echoed number; the session is ESTABLISHED
if the first 5 bytes are SID, and fails if they are not. -/
def Obligations.ExchangeTwoChecksIdentifier : Prop :=
  ∀ (b : Byte) (s : State) (p : Block), s.hsState = .awaitSsAck → s.rxCnt = 19 →
    p = aesDec s.sk (Vector.ofFn fun i => if h : i.val < 15 then s.rxBuf[4 + i.val] else b) →
    ((p[0] ^^^ s.rxBuf[0] = s.sid[0] ∧ p[1] ^^^ s.rxBuf[1] = s.sid[1] ∧ p[2] = s.sid[2] ∧ p[3] = s.sid[3] ∧
        p[4] = s.sid[4]) →
      exec (.rxByte b) s =
        .next { s with rxBuf := s.rxBuf.set 19 b, rxCnt := 20, hsState := .established }) ∧
    (¬ (p[0] ^^^ s.rxBuf[0] = s.sid[0] ∧ p[1] ^^^ s.rxBuf[1] = s.sid[1] ∧ p[2] = s.sid[2] ∧ p[3] = s.sid[3] ∧
        p[4] = s.sid[4]) →
      exec (.rxByte b) s =
        .next (failedBy .sessionIdentifierMismatch { s with rxBuf := s.rxBuf.set 19 b, rxCnt := 20 }))

/-- R217: a transport failure of any kind fails a live session or an idle open transport, and is ignored otherwise. -/
def Obligations.TransportErrorFailsSession : Prop :=
  (∀ (k : TErrKind) (s : State),
    (s.hsState = .awaitNsAck ∨ s.hsState = .awaitSsAck ∨ s.hsState = .established ∨
        s.hsState = .disconnected ∧ s.tOpen = true →
      exec (.tErr k) s = .next (failedBy .transportError s)) ∧
    (s.hsState = .failed ∨ s.hsState = .disconnected ∧ s.tOpen = false → exec (.tErr k) s = .next s)) ∧
  (∀ (s : State) (code : BitVec 2), enabled s (.tErr code) = true) ∧
  decode (.tErr 0) = .ok (.tErr .read) ∧ decode (.tErr 1) = .ok (.tErr .write) ∧ decode (.tErr 2) = .ok (.tErr .eof)

/-- R300: Reset writes every register of R39 and touches nothing else: no response, no CLOSE, no change of the output. -/
def Obligations.ResetWritesEveryRegister : Prop :=
  (∀ s : State, exec .reset s = .next
    { s with
      ltk := Vector.replicate 16 0, ltkValid := false, sid := Vector.replicate 5 0, sidValid := false
      sk := Vector.replicate 16 0, skValid := false, seq := 0, lastSeq := 0, hsState := .disconnected, err := .none
      tOpen := false, rxBuf := Vector.replicate 20 0, rxCnt := 0 }) ∧
  ∀ s, enabled s .reset = true

/-- R39: the reset values of the thirteen registers. -/
def Obligations.ResetValues : Prop :=
  State.reset.ltk = Vector.replicate 16 0 ∧ State.reset.ltkValid = false ∧
  State.reset.sid = Vector.replicate 5 0 ∧ State.reset.sidValid = false ∧
  State.reset.sk = Vector.replicate 16 0 ∧ State.reset.skValid = false ∧
  State.reset.seq = 0x0000 ∧ State.reset.lastSeq = 0x0000 ∧ State.reset.hsState = .disconnected ∧
  State.reset.err = .none ∧ State.reset.tOpen = false ∧ State.reset.rxBuf = Vector.replicate 20 0 ∧
  State.reset.rxCnt = 0

/-- R303: what READ_STATUS, SEQ_NEXT, READ_SK and HS_START answer right after Reset, in whatever state it came. -/
def Obligations.AnswersAfterReset : Prop :=
  ∀ s t : State, exec .reset s = .next t →
    exec .readStatus t = .next (answered [0x00, 0x08, 0x00, 0x00, 0x00, 0x00, 0x00, 0x00, 0x00, 0x00] t) ∧
    exec .seqNext t = .next (answered [0x00, 0x02, 0x00, 0x01] { t with seq := 1 }) ∧
    exec .readSk t = .next (answered [0x02, 0x00] t) ∧
    exec .hsStart t = .next (answered [0x02, 0x00] t)

/-- R202, R282, R283: in FAILED, every input but NEW_SESSION and Reset leaves the state FAILED with its first cause and
sends nothing; ESTABLISHED is left only by TErr, CLOSE and Reset. -/
def Obligations.TerminalStates : Prop :=
  ∀ (i : Instr) (s t : State), exec i s = .next t → i ≠ .reset →
    (s.hsState = .failed → i ≠ .newSession →
      t.hsState = .failed ∧ t.err = s.err ∧ t.txOut = s.txOut) ∧
    (s.hsState = .established → (∀ k, i ≠ .tErr k) → i ≠ .close → t.hsState = .established ∧ t.rxCnt = s.rxCnt)

/-- R201: every change of HS_STATE is one of the table's rows, under that row's condition, with the ERR that its action
records (Reset, R300, apart). -/
def Obligations.HandshakeTransitions : Prop :=
  ∀ (i : Instr) (s t : State), exec i s = .next t → t.hsState ≠ s.hsState →
    (i = .hsStart ∧ s.hsState = .disconnected ∧ s.tOpen = true ∧ s.ltkValid = true ∧ t.hsState = .awaitNsAck) ∨
    (∃ b, i = .rxByte b ∧ (s.hsState = .awaitNsAck ∨ s.hsState = .awaitSsAck) ∧ s.rxCnt = 3 ∧ HeaderFails s t.err ∧
      t.hsState = .failed) ∨
    (∃ b, i = .rxByte b ∧ s.hsState = .awaitNsAck ∧ s.rxCnt = 10 ∧ t.hsState = .awaitSsAck) ∨
    (∃ b, i = .rxByte b ∧ s.hsState = .awaitSsAck ∧ s.rxCnt = 19 ∧ SidMatches s b ∧ t.hsState = .established) ∨
    (∃ b, i = .rxByte b ∧ s.hsState = .awaitSsAck ∧ s.rxCnt = 19 ∧ ¬ SidMatches s b ∧ t.hsState = .failed ∧
      t.err = .sessionIdentifierMismatch) ∨
    (∃ k, i = .tErr k ∧ (s.hsState = .awaitNsAck ∨ s.hsState = .awaitSsAck ∨ s.hsState = .established ∨
      s.hsState = .disconnected ∧ s.tOpen = true) ∧ t.hsState = .failed ∧ t.err = .transportError) ∨
    (i = .close ∧ (s.hsState = .awaitNsAck ∨ s.hsState = .awaitSsAck) ∧ t.hsState = .failed ∧ t.err = .aborted) ∨
    (i = .close ∧ s.hsState = .established ∧ t.hsState = .disconnected) ∨
    (i = .newSession ∧ s.hsState = .failed ∧ t.hsState = .disconnected) ∨
    (i = .reset ∧ t.hsState = .disconnected)

/-- R38: the invariants are kept by every step, from every state that meets them. -/
def Obligations.InvariantsAreKept : Prop :=
  ∀ s t : State, Inv s → step s = .next t → Inv t

/-- R38, R39: the invariants hold at reset. -/
def Obligations.InvariantsHoldAtReset : Prop := Inv State.reset

/-- R27, R38 item 6, R190, R196: SEQ changes only to its successor, by SEQ_NEXT, HS_START, SEND or the 11th byte of
exchange 1, or to 0 by NEW_SESSION or Reset; once a number has been issued only those two bring it back to 0. -/
def Obligations.SequenceCounterWriters : Prop :=
  ∀ (i : Instr) (s t : State), exec i s = .next t →
    (t.seq = s.seq ∨
      (t.seq = nextSeq s.seq ∧ (i = .seqNext ∨ i = .hsStart ∨ (∃ y p, i = .send y p) ∨
        ∃ b, i = .rxByte b ∧ s.hsState = .awaitNsAck ∧ s.rxCnt = 10)) ∨
      (t.seq = 0 ∧ (i = .newSession ∨ i = .reset))) ∧
    (s.seq ≠ 0 → t.seq = 0 → i = .newSession ∨ i = .reset) ∧
    nextSeq s.seq ≠ 0

/-- R37: the writers of each of the thirteen registers, Reset apart. -/
def Obligations.RegisterWriters : Prop :=
  ∀ (i : Instr) (s t : State), exec i s = .next t → i ≠ .reset →
    (t.ltk = s.ltk ∧ t.ltkValid = s.ltkValid ∨ ∃ l, i = .loadLtk l) ∧
    (t.sid = s.sid ∧ t.sidValid = s.sidValid ∧ t.sk = s.sk ∧ t.skValid = s.skValid ∨
      (∃ b, i = .rxByte b ∧ s.hsState = .awaitNsAck ∧ s.rxCnt = 10) ∨ i = .newSession ∨
      i = .close ∧ s.hsState = .established) ∧
    (t.seq = s.seq ∨ i = .seqNext ∨ i = .hsStart ∨ (∃ y p, i = .send y p) ∨
      (∃ b, i = .rxByte b ∧ s.hsState = .awaitNsAck ∧ s.rxCnt = 10) ∨ i = .newSession) ∧
    (t.hsState = s.hsState ∨ i = .hsStart ∨ (∃ b, i = .rxByte b) ∨ (∃ k, i = .tErr k) ∨ i = .close ∨ i = .newSession) ∧
    (t.lastSeq = s.lastSeq ∨ i = .hsStart ∨ (∃ b, i = .rxByte b ∧ s.hsState = .awaitNsAck ∧ s.rxCnt = 10) ∨
      i = .newSession) ∧
    (t.err = s.err ∨ s.hsState ≠ .failed ∧ t.hsState = .failed ∨ i = .newSession) ∧
    (t.tOpen = s.tOpen ∨ s.hsState ≠ .failed ∧ t.hsState = .failed ∨ i = .newSession ∨ i = .close) ∧
    (t.rxBuf = s.rxBuf ∨ (∃ b, i = .rxByte b) ∨ i = .newSession) ∧
    (t.rxCnt = s.rxCnt ∨ (∃ b, i = .rxByte b) ∨ i = .hsStart ∨ i = .newSession)

/-- R91, R92, R94, R102: every command gets exactly one response, to its own requester: a status, a length byte that
counts the data (at most 255 bytes), and no data unless the status is OK. An event gets none. -/
def Obligations.OneResponsePerCommand : Prop :=
  ∀ (s t : State) (before after : List Input) (input : Input),
    s.inputs = before ++ input :: after → (∀ x ∈ before, enabled s x = false) → enabled s input = true →
    step s = .next t →
    (∀ r bytes, input = .cmd r bytes → ∃ (st : Byte) (data : List Byte),
      t.responses = s.responses ++ [⟨r, st :: enc8 data.length :: data⟩] ∧ data.length ≤ 255 ∧
      (st = 0x00 ∨ st = 0x01 ∨ st = 0x02 ∨ st = 0x03) ∧ (st ≠ 0x00 → data = [])) ∧
    ((∀ r bytes, input ≠ .cmd r bytes) → t.responses = s.responses)

/-- R271: a command that is not answered OK gets its 2-byte response and has no other effect. -/
def Obligations.RefusedCommandsChangeNothing : Prop :=
  ∀ (s t : State) (r : Nat) (bytes : List Byte) (rest : List Input) (st : Byte) (data : List Byte),
    s.inputs = .cmd r bytes :: rest → step s = .next t →
    t.responses = s.responses ++ [⟨r, st :: data⟩] → st ≠ 0x00 →
    t = { s with inputs := rest, requester := r, responses := s.responses ++ [⟨r, [st, 0x00]⟩] }

/-- R32, R34, R66: an input appends to the transport output a run of bytes and then at most one CLOSE, which is there
exactly where T_OPEN falls by another input than Reset. -/
def Obligations.TransportOutputIsAppendOnly : Prop :=
  ∀ (i : Instr) (s t : State), Inv s → exec i s = .next t →
    ∃ (sent : List Byte) (closed : Bool),
      t.txOut = s.txOut ++ sent.map .tx ++ (if closed then [.close] else []) ∧
      (closed = true ↔ s.tOpen = true ∧ t.tOpen = false ∧ i ≠ .reset)

/-- R21, R41, R284: the long-term key is read only by the key derivation at the 11th byte of exchange 1: with another
LTK every other input leaves the same state but for LTK itself. -/
def Obligations.LongTermKeyIsNeverShown : Prop :=
  ∀ (i : Instr) (s t : State) (l : Key), exec i s = .next t →
    (∀ b, i = .rxByte b → ¬ (s.hsState = .awaitNsAck ∧ s.rxCnt = 10)) →
    ∃ t', exec i { s with ltk := l } = .next t' ∧ t' = { t with ltk := t'.ltk }

/-- R253, R284: outside ESTABLISHED, and but for the check at the 20th byte of exchange 2, no input shows SK or SID: with
others in their place it leaves the same state but for SK and SID themselves. -/
def Obligations.SessionKeyIsHiddenUntilEstablished : Prop :=
  ∀ (i : Instr) (s t : State) (sk : Key) (sid : Sid), exec i s = .next t → s.hsState ≠ .established →
    (∀ b, i = .rxByte b → ¬ (s.hsState = .awaitSsAck ∧ s.rxCnt = 19)) →
    ∃ t', exec i { s with sk := sk, sid := sid } = .next t' ∧ t' = { t with sk := t'.sk, sid := t'.sid }

/-- R7, R102: where the agents offer only inputs they may offer, the machine never stops, however many steps it runs. -/
def Obligations.MachineNeverStops : Prop :=
  ∀ (k : Nat) (s : State), InputsLegal s → RunsFor k s

/-- R40: no step changes the parameters. -/
def Obligations.ParametersNeverChange : Prop :=
  ∀ s t : State, step s = .next t → t.params = s.params

/-- From R191, R206 and R214 (I10): while a response is awaited LAST_SEQ is not 0, and every step keeps that. -/
def Obligations.OutstandingNumberIsNeverZero : Prop :=
  ∀ s t : State, (s.hsState = .awaitNsAck ∨ s.hsState = .awaitSsAck → s.lastSeq ≠ 0) → step s = .next t →
    t.hsState = .awaitNsAck ∨ t.hsState = .awaitSsAck → t.lastSeq ≠ 0

/-- R223: HS_START and then two correct responses, with no other input between, reach ESTABLISHED with the derived key,
having sent the two requests; the controller's own encryption of SID is a correct confirmation block. -/
def Obligations.SuccessfulHandshake : Prop :=
  (∀ (s : State) (rq : Nat) (sid : Sid) (x x' d0 d1 : Byte) (c : Block) (rest : List Input) (s1 s2 : Seq) (sk : Key),
    s.hsState = .disconnected → s.tOpen = true → s.ltkValid = true →
    s1 = nextSeq s.seq → s2 = nextSeq s1 → sk = kdf s.ltk sid →
    (∀ (i : Nat) (h : i < 5), (chainDec sk s2 c)[i] = sid[i]) →
    s.inputs = .cmd rq [0x03, 0x00] ::
      ((enc16 s1 ++ [0x02, x, d0, d1] ++ sid.toList).map .rxByte ++
        ((enc16 s2 ++ [0x04, x'] ++ c.toList).map .rxByte ++ rest)) →
    ∃ t, Host.Core.run Sys2Proof.core 32 s = .next t ∧ t.hsState = .established ∧ t.sk = kdf s.ltk sid ∧
      t.sid = sid ∧ t.seq = s2 ∧ t.lastSeq = s2 ∧ t.rxCnt = 20 ∧ t.inputs = rest ∧
      t.txOut = s.txOut ++ (enc16 s1 ++ [0x01, 0x00]).map .tx ++
        (frame s.params.padWhenAligned s2 0x03 true sk sid.toList).map .tx) ∧
  ∀ (pad : Bool) (sk : Key) (sid : Sid) (s2 : Seq) (c : Block),
    c = field 16 (chainEnc pad sk (enc16 s2 ++ [0x04, 0x00] ++ sid.toList)) 4 →
    (∀ (i : Nat) (h : i < 5), (chainDec sk s2 c)[i] = sid[i]) ∧
      c = field 16 (frame pad s2 0x03 true sk sid.toList) 4
end

