-- ==== Sys2Proof/Laws/Bytes.lean ====
section
/-! SUPPORT. Byte strings, the sequence number's two bytes, and the lengths of what the cipher functions answer. -/

namespace Sys2Proof.Machine

/-- A fixed-size string read back from its own list of bytes. -/
@[simp] theorem field_toList {n : Nat} (v : Vector Byte n) : field n v.toList 0 = v := by
  ext i hi
  simp [field, List.getD]

/-- A field that lies inside the second part of a string. -/
theorem field_append_right (n : Nat) (a b : List Byte) (off : Nat) :
    field n (a ++ b) (a.length + off) = field n b off := by
  ext i hi
  simp [field, List.getD_eq_getElem?_getD, List.getElem?_append_right, Nat.add_assoc]

/-- A field that lies inside the first part of a string. -/
theorem field_append_left {n : Nat} {a b : List Byte} {off : Nat} (h : off + n ≤ a.length) :
    field n (a ++ b) off = field n a off := by
  ext i hi
  simp [field, List.getD_eq_getElem?_getD, List.getElem?_append_left (show off + i < a.length by omega)]

/-- A field of a string less its first bytes. -/
theorem field_drop (n : Nat) (b : List Byte) (k off : Nat) : field n (b.drop k) off = field n b (k + off) := by
  ext i hi
  simp [field, List.getD_eq_getElem?_getD, Nat.add_assoc]

/-- Bit `i` of a two-byte number is bit `i` of the low byte, or bit `i - 8` of the high byte (R9). -/
theorem getLsbD_be16 (h l : Byte) (i : Nat) :
    (be16 h l).getLsbD i = if i < 8 then l.getLsbD i else h.getLsbD (i - 8) := BitVec.getLsbD_append

@[simp] theorem be16_enc16 (s : Seq) : be16 (hi8 s) (lo8 s) = s := by
  apply BitVec.eq_of_getLsbD_eq
  intro i hi
  rw [getLsbD_be16]
  split
  · simp [lo8, *]
  · simp [hi8, show i - 8 < 8 by omega, show 8 + (i - 8) = i by omega]

@[simp] theorem hi8_be16 (h l : Byte) : hi8 (be16 h l) = h := by
  apply BitVec.eq_of_getLsbD_eq
  intro i hi
  simp [hi8, getLsbD_be16, hi]

@[simp] theorem lo8_be16 (h l : Byte) : lo8 (be16 h l) = l := by
  apply BitVec.eq_of_getLsbD_eq
  intro i hi
  simp [lo8, getLsbD_be16, hi]

@[simp] theorem length_enc16 (s : Seq) : (enc16 s).length = 2 := rfl

@[simp] theorem length_packetHeader (s : Seq) (t : Byte) : (packetHeader s t).length = 4 := rfl

@[simp] theorem length_chainBlocks (k : Key) (h l : Byte) (n : Nat) (q : List Byte) :
    (chainBlocks k h l n q).length = 16 * n := by
  induction n generalizing q with
  | zero => rfl
  | succ n ih => simp [chainBlocks, ih]; omega

/-- The padded length is a multiple of 16. -/
theorem dvd_padLen (pad : Bool) (n : Nat) : 16 ∣ padLen pad n := by
  cases pad <;> simp [padLen]

/-- The padded length holds the payload. -/
theorem le_padLen (pad : Bool) (n : Nat) : n ≤ padLen pad n := by
  cases pad <;> simp [padLen] <;> omega

theorem length_padded (pad : Bool) (p : List Byte) : (padded pad p).length = padLen pad p.length := by
  have := le_padLen pad p.length
  simp [padded, zeros]
  omega

/-- R150: `|OUT| = 4 + padlen(L)`. -/
theorem length_chainEnc (pad : Bool) (k : Key) {b : List Byte} (h : 4 ≤ b.length) :
    (chainEnc pad k b).length = 4 + padLen pad (b.length - 4) := by
  have := Nat.mul_div_cancel' (dvd_padLen pad (b.length - 4))
  simp [chainEnc, this, h]

/-- Block `i` of the ciphertext is the encryption of block `i` of the padded payload, whitened. -/
theorem field_chainBlocks (k : Key) (h l : Byte) {n i : Nat} (hi : i < n) (q : List Byte) :
    field 16 (chainBlocks k h l n q) (16 * i) = aesEnc k (whiten h l (field 16 q (16 * i))) := by
  induction n generalizing q i with
  | zero => omega
  | succ n ih =>
    cases i with
    | zero => rw [chainBlocks, field_append_left (by simp)]; simp
    | succ i =>
      have e : 16 * (i + 1) = (aesEnc k (whiten h l (field 16 q 0))).toList.length + 16 * i := by simp; omega
      rw [chainBlocks, e, field_append_right, ih (by omega), field_drop]
      simp

/-- XORing the same two bytes twice gives the block back. -/
@[simp] theorem whiten_whiten (h l : Byte) (x : Block) : whiten h l (whiten h l x) = x := by
  ext i hi
  simp only [whiten, Vector.getElem_set]
  by_cases h1 : 1 = i
  · subst h1; simp
  · by_cases h0 : 0 = i
    · subst h0; simp
    · simp [h1, h0]

end Sys2Proof.Machine
end

