-- ==== Sys2Proof/Laws/Asm.lean ====
section
/-! SUPPORT. The assembler's words and operands: what is written reads back, one lemma per function. -/

namespace Sys2Proof.Machine

/-- A digit reads back, is no gap, and is none of the characters that end a word, a requester or a line. -/
theorem hexDigit_hexChar : ∀ n < 16, hexDigit (hexChar n) = some n := by decide

theorem isGap_hexChar : ∀ n < 16, isGap (hexChar n) = false := by decide

theorem hexChar_ne_comment : ∀ n < 16, hexChar n ≠ ';' ∧ hexChar n ≠ ':' := by decide

/-- The digits of a byte are below 16. -/
theorem digits_lt (b : Byte) : b.toNat / 16 < 16 ∧ b.toNat % 16 < 16 := by
  have := b.isLt
  omega

/-- Bytes written as hex digits read back (R100). -/
@[simp] theorem hexBytes_hexChars (bytes : List Byte) : hexBytes (hexChars bytes) = some bytes := by
  induction bytes with
  | nil => rfl
  | cons b bytes ih =>
    have ⟨h1, h2⟩ := digits_lt b
    simp [hexChars, hexBytes, hexDigit_hexChar _ h1, hexDigit_hexChar _ h2, ih, Nat.div_add_mod]

/-- A fixed-size operand written as hex digits reads back. -/
@[simp] theorem hexField_hexChars {n : Nat} (v : Vector Byte n) : hexField n (hexChars v.toList) = some v := by
  simp [hexField]

@[simp] theorem hexByte_hexChars (b : Byte) : hexByte (hexChars [b]) = some b := by
  have h : hexField 1 (hexChars [b]) = some #v[b] := hexField_hexChars #v[b]
  simp [hexByte, h]

@[simp] theorem hexSeq_hexChars (s : Sys2Proof.Seq) : hexSeq (hexChars (enc16 s)) = some s := by
  have h : hexField 2 (hexChars (enc16 s)) = some #v[hi8 s, lo8 s] := hexField_hexChars #v[hi8 s, lo8 s]
  simp [hexSeq, h]

/-- Every character of written bytes is a digit. -/
theorem mem_hexChars {c : Char} {bytes : List Byte} (h : c ∈ hexChars bytes) : ∃ n < 16, c = hexChar n := by
  induction bytes with
  | nil => simp [hexChars] at h
  | cons b bytes ih =>
    rcases List.mem_cons.mp h with rfl | h
    · exact ⟨_, (digits_lt b).1, rfl⟩
    rcases List.mem_cons.mp h with rfl | h
    · exact ⟨_, (digits_lt b).2, rfl⟩
    · exact ih h

theorem isGap_of_mem_hexChars {bytes : List Byte} : ∀ c ∈ hexChars bytes, isGap c = false := by
  intro c h
  obtain ⟨n, hn, rfl⟩ := mem_hexChars h
  exact isGap_hexChar n hn

theorem ne_comment_of_mem_hexChars {bytes : List Byte} : ∀ c ∈ hexChars bytes, c ≠ ';' := by
  intro c h
  obtain ⟨n, hn, rfl⟩ := mem_hexChars h
  exact (hexChar_ne_comment n hn).1

/-- An operand `name=value` gives its value. -/
@[simp] theorem named_append (name : String) (value : List Char) : named name (name.toList ++ value) = some value := by
  simp [named]

/-- A word's characters are gathered until a gap or the end. -/
theorem splitWords_append {w : List Char} (hw : ∀ c ∈ w, isGap c = false) (word rest : List Char) :
    splitWords word (w ++ rest) = splitWords (w.reverse ++ word) rest := by
  induction w generalizing word with
  | nil => rfl
  | cons c w ih => simp [splitWords, hw c (by simp), ih (fun d hd => hw d (by simp [hd]))]

/-- The last word of a line. -/
theorem splitWords_last {w : List Char} (hw : ∀ c ∈ w, isGap c = false) (hn : w ≠ []) : splitWords [] w = [w] := by
  have h := splitWords_append hw [] []
  simp only [List.append_nil] at h
  simp [h, splitWords, hn]

/-- A word, the gap after it, and the rest of the line. -/
theorem splitWords_word {w : List Char} (hw : ∀ c ∈ w, isGap c = false) (hn : w ≠ []) {g : Char} (hg : isGap g = true)
    (rest : List Char) : splitWords [] (w ++ g :: rest) = w :: splitWords [] rest := by
  rw [splitWords_append hw]
  simp [splitWords, hg, hn]

/-- A gap before the first word is passed over. -/
@[simp] theorem splitWords_gap {g : Char} (hg : isGap g = true) (rest : List Char) :
    splitWords [] (g :: rest) = splitWords [] rest := by simp [splitWords, hg]

/-- No word is empty, so no line has an empty operand word. -/
theorem splitWords_ne_nil (word cs : List Char) : ∀ w ∈ splitWords word cs, w ≠ [] := by
  induction cs generalizing word with
  | nil => cases word <;> simp [splitWords]
  | cons c cs ih =>
    unfold splitWords
    split
    · cases word with
      | nil => simpa using ih []
      | cons a word => simpa using ih []
    · exact ih _

/-- A line has no word exactly where it is all gaps. -/
theorem splitWords_eq_nil (word cs : List Char) :
    splitWords word cs = [] ↔ word = [] ∧ ∀ c ∈ cs, isGap c = true := by
  induction cs generalizing word with
  | nil => cases word <;> simp [splitWords]
  | cons c cs ih =>
    unfold splitWords
    by_cases hc : isGap c = true
    · cases word <;> simp [hc, ih]
    · simp [hc, ih]

/-- Words give no instruction only where there is none: an operand word of RX has a digit. -/
theorem assembleWords_nil {ws : List (List Char)} (hw : ∀ w ∈ ws, w ≠ []) (h : assembleWords ws = some []) : ws = [] := by
  match ws, h with
  | [], _ => rfl
  | [m], h => simp [assembleWords] at h
  | [m, a], h =>
    exfalso
    have ha : a ≠ [] := hw a (by simp)
    simp only [assembleWords, assembleOne] at h
    split_ifs at h <;> simp at h
    match a, h with
    | x :: y :: rest, h => simp [hexBytes, Option.bind_eq_some_iff] at h
    | [x], h => simp [hexBytes] at h
    | [], h => exact ha rfl
  | [m, a, b], h => simp [assembleWords] at h
  | [m, a, b, c], h => simp [assembleWords] at h
  | [m, a, b, c, d], h => simp [assembleWords] at h

/-- Decimal digits read back, after a number already read. -/
theorem decimal_digits (digits : List (Fin 10)) (acc : Nat) :
    decimal acc (digits.map fun d => hexChar d.val) = some (digits.foldl (fun n d => 10 * n + d.val) acc) := by
  induction digits generalizing acc with
  | nil => rfl
  | cons d digits ih =>
    have h : ∀ d : Fin 10, '0' ≤ hexChar d.val ∧ hexChar d.val ≤ '9' ∧ (hexChar d.val).toNat - 48 = d.val := by decide
    obtain ⟨h1, h2, h3⟩ := h d
    simp [decimal, h1, h2, h3, ih]

end Sys2Proof.Machine
end

