-- ==== Sys2Proof/Laws/State.lean ====
section
/-! SUPPORT. One lemma per field per named update of the state, true by rfl, so that no later proof unfolds an update. -/

namespace Sys2Proof.Machine

@[simp] theorem respond_ltk (st : Status) (data : List Byte) (s : State) : (respond st data s).ltk = s.ltk := rfl
@[simp] theorem respond_ltkValid (st : Status) (data : List Byte) (s : State) : (respond st data s).ltkValid = s.ltkValid := rfl
@[simp] theorem respond_sid (st : Status) (data : List Byte) (s : State) : (respond st data s).sid = s.sid := rfl
@[simp] theorem respond_sidValid (st : Status) (data : List Byte) (s : State) : (respond st data s).sidValid = s.sidValid := rfl
@[simp] theorem respond_sk (st : Status) (data : List Byte) (s : State) : (respond st data s).sk = s.sk := rfl
@[simp] theorem respond_skValid (st : Status) (data : List Byte) (s : State) : (respond st data s).skValid = s.skValid := rfl
@[simp] theorem respond_seq (st : Status) (data : List Byte) (s : State) : (respond st data s).seq = s.seq := rfl
@[simp] theorem respond_lastSeq (st : Status) (data : List Byte) (s : State) : (respond st data s).lastSeq = s.lastSeq := rfl
@[simp] theorem respond_hsState (st : Status) (data : List Byte) (s : State) : (respond st data s).hsState = s.hsState := rfl
@[simp] theorem respond_err (st : Status) (data : List Byte) (s : State) : (respond st data s).err = s.err := rfl
@[simp] theorem respond_tOpen (st : Status) (data : List Byte) (s : State) : (respond st data s).tOpen = s.tOpen := rfl
@[simp] theorem respond_rxBuf (st : Status) (data : List Byte) (s : State) : (respond st data s).rxBuf = s.rxBuf := rfl
@[simp] theorem respond_rxCnt (st : Status) (data : List Byte) (s : State) : (respond st data s).rxCnt = s.rxCnt := rfl
@[simp] theorem respond_txOut (st : Status) (data : List Byte) (s : State) : (respond st data s).txOut = s.txOut := rfl
@[simp] theorem respond_responses (st : Status) (data : List Byte) (s : State) : (respond st data s).responses = s.responses ++ [⟨s.requester, responseFrame st data⟩] := rfl
@[simp] theorem respond_inputs (st : Status) (data : List Byte) (s : State) : (respond st data s).inputs = s.inputs := rfl
@[simp] theorem respond_requester (st : Status) (data : List Byte) (s : State) : (respond st data s).requester = s.requester := rfl
@[simp] theorem respond_params (st : Status) (data : List Byte) (s : State) : (respond st data s).params = s.params := rfl

@[simp] theorem cmdError_ltk (st : Status) (s : State) : (cmdError st s).ltk = s.ltk := rfl
@[simp] theorem cmdError_ltkValid (st : Status) (s : State) : (cmdError st s).ltkValid = s.ltkValid := rfl
@[simp] theorem cmdError_sid (st : Status) (s : State) : (cmdError st s).sid = s.sid := rfl
@[simp] theorem cmdError_sidValid (st : Status) (s : State) : (cmdError st s).sidValid = s.sidValid := rfl
@[simp] theorem cmdError_sk (st : Status) (s : State) : (cmdError st s).sk = s.sk := rfl
@[simp] theorem cmdError_skValid (st : Status) (s : State) : (cmdError st s).skValid = s.skValid := rfl
@[simp] theorem cmdError_seq (st : Status) (s : State) : (cmdError st s).seq = s.seq := rfl
@[simp] theorem cmdError_lastSeq (st : Status) (s : State) : (cmdError st s).lastSeq = s.lastSeq := rfl
@[simp] theorem cmdError_hsState (st : Status) (s : State) : (cmdError st s).hsState = s.hsState := rfl
@[simp] theorem cmdError_err (st : Status) (s : State) : (cmdError st s).err = s.err := rfl
@[simp] theorem cmdError_tOpen (st : Status) (s : State) : (cmdError st s).tOpen = s.tOpen := rfl
@[simp] theorem cmdError_rxBuf (st : Status) (s : State) : (cmdError st s).rxBuf = s.rxBuf := rfl
@[simp] theorem cmdError_rxCnt (st : Status) (s : State) : (cmdError st s).rxCnt = s.rxCnt := rfl
@[simp] theorem cmdError_txOut (st : Status) (s : State) : (cmdError st s).txOut = s.txOut := rfl
@[simp] theorem cmdError_responses (st : Status) (s : State) : (cmdError st s).responses = s.responses ++ [⟨s.requester, responseFrame st []⟩] := rfl
@[simp] theorem cmdError_inputs (st : Status) (s : State) : (cmdError st s).inputs = s.inputs := rfl
@[simp] theorem cmdError_requester (st : Status) (s : State) : (cmdError st s).requester = s.requester := rfl
@[simp] theorem cmdError_params (st : Status) (s : State) : (cmdError st s).params = s.params := rfl

@[simp] theorem emitTx_ltk (b : List Byte) (s : State) : (emitTx b s).ltk = s.ltk := rfl
@[simp] theorem emitTx_ltkValid (b : List Byte) (s : State) : (emitTx b s).ltkValid = s.ltkValid := rfl
@[simp] theorem emitTx_sid (b : List Byte) (s : State) : (emitTx b s).sid = s.sid := rfl
@[simp] theorem emitTx_sidValid (b : List Byte) (s : State) : (emitTx b s).sidValid = s.sidValid := rfl
@[simp] theorem emitTx_sk (b : List Byte) (s : State) : (emitTx b s).sk = s.sk := rfl
@[simp] theorem emitTx_skValid (b : List Byte) (s : State) : (emitTx b s).skValid = s.skValid := rfl
@[simp] theorem emitTx_seq (b : List Byte) (s : State) : (emitTx b s).seq = s.seq := rfl
@[simp] theorem emitTx_lastSeq (b : List Byte) (s : State) : (emitTx b s).lastSeq = s.lastSeq := rfl
@[simp] theorem emitTx_hsState (b : List Byte) (s : State) : (emitTx b s).hsState = s.hsState := rfl
@[simp] theorem emitTx_err (b : List Byte) (s : State) : (emitTx b s).err = s.err := rfl
@[simp] theorem emitTx_tOpen (b : List Byte) (s : State) : (emitTx b s).tOpen = s.tOpen := rfl
@[simp] theorem emitTx_rxBuf (b : List Byte) (s : State) : (emitTx b s).rxBuf = s.rxBuf := rfl
@[simp] theorem emitTx_rxCnt (b : List Byte) (s : State) : (emitTx b s).rxCnt = s.rxCnt := rfl
@[simp] theorem emitTx_txOut (b : List Byte) (s : State) : (emitTx b s).txOut = s.txOut ++ b.map .tx := rfl
@[simp] theorem emitTx_responses (b : List Byte) (s : State) : (emitTx b s).responses = s.responses := rfl
@[simp] theorem emitTx_inputs (b : List Byte) (s : State) : (emitTx b s).inputs = s.inputs := rfl
@[simp] theorem emitTx_requester (b : List Byte) (s : State) : (emitTx b s).requester = s.requester := rfl
@[simp] theorem emitTx_params (b : List Byte) (s : State) : (emitTx b s).params = s.params := rfl

@[simp] theorem emitClose_ltk (s : State) : (emitClose s).ltk = s.ltk := rfl
@[simp] theorem emitClose_ltkValid (s : State) : (emitClose s).ltkValid = s.ltkValid := rfl
@[simp] theorem emitClose_sid (s : State) : (emitClose s).sid = s.sid := rfl
@[simp] theorem emitClose_sidValid (s : State) : (emitClose s).sidValid = s.sidValid := rfl
@[simp] theorem emitClose_sk (s : State) : (emitClose s).sk = s.sk := rfl
@[simp] theorem emitClose_skValid (s : State) : (emitClose s).skValid = s.skValid := rfl
@[simp] theorem emitClose_seq (s : State) : (emitClose s).seq = s.seq := rfl
@[simp] theorem emitClose_lastSeq (s : State) : (emitClose s).lastSeq = s.lastSeq := rfl
@[simp] theorem emitClose_hsState (s : State) : (emitClose s).hsState = s.hsState := rfl
@[simp] theorem emitClose_err (s : State) : (emitClose s).err = s.err := rfl
@[simp] theorem emitClose_tOpen (s : State) : (emitClose s).tOpen = s.tOpen := rfl
@[simp] theorem emitClose_rxBuf (s : State) : (emitClose s).rxBuf = s.rxBuf := rfl
@[simp] theorem emitClose_rxCnt (s : State) : (emitClose s).rxCnt = s.rxCnt := rfl
@[simp] theorem emitClose_txOut (s : State) : (emitClose s).txOut = s.txOut ++ [.close] := rfl
@[simp] theorem emitClose_responses (s : State) : (emitClose s).responses = s.responses := rfl
@[simp] theorem emitClose_inputs (s : State) : (emitClose s).inputs = s.inputs := rfl
@[simp] theorem emitClose_requester (s : State) : (emitClose s).requester = s.requester := rfl
@[simp] theorem emitClose_params (s : State) : (emitClose s).params = s.params := rfl

@[simp] theorem seqNext_ltk (s : State) : (seqNext s).ltk = s.ltk := rfl
@[simp] theorem seqNext_ltkValid (s : State) : (seqNext s).ltkValid = s.ltkValid := rfl
@[simp] theorem seqNext_sid (s : State) : (seqNext s).sid = s.sid := rfl
@[simp] theorem seqNext_sidValid (s : State) : (seqNext s).sidValid = s.sidValid := rfl
@[simp] theorem seqNext_sk (s : State) : (seqNext s).sk = s.sk := rfl
@[simp] theorem seqNext_skValid (s : State) : (seqNext s).skValid = s.skValid := rfl
@[simp] theorem seqNext_seq (s : State) : (seqNext s).seq = nextSeq s.seq := rfl
@[simp] theorem seqNext_lastSeq (s : State) : (seqNext s).lastSeq = s.lastSeq := rfl
@[simp] theorem seqNext_hsState (s : State) : (seqNext s).hsState = s.hsState := rfl
@[simp] theorem seqNext_err (s : State) : (seqNext s).err = s.err := rfl
@[simp] theorem seqNext_tOpen (s : State) : (seqNext s).tOpen = s.tOpen := rfl
@[simp] theorem seqNext_rxBuf (s : State) : (seqNext s).rxBuf = s.rxBuf := rfl
@[simp] theorem seqNext_rxCnt (s : State) : (seqNext s).rxCnt = s.rxCnt := rfl
@[simp] theorem seqNext_txOut (s : State) : (seqNext s).txOut = s.txOut := rfl
@[simp] theorem seqNext_responses (s : State) : (seqNext s).responses = s.responses := rfl
@[simp] theorem seqNext_inputs (s : State) : (seqNext s).inputs = s.inputs := rfl
@[simp] theorem seqNext_requester (s : State) : (seqNext s).requester = s.requester := rfl
@[simp] theorem seqNext_params (s : State) : (seqNext s).params = s.params := rfl

@[simp] theorem dropKeys_ltk (s : State) : (dropKeys s).ltk = s.ltk := rfl
@[simp] theorem dropKeys_ltkValid (s : State) : (dropKeys s).ltkValid = s.ltkValid := rfl
@[simp] theorem dropKeys_sid (s : State) : (dropKeys s).sid = zeroVec 5 := rfl
@[simp] theorem dropKeys_sidValid (s : State) : (dropKeys s).sidValid = false := rfl
@[simp] theorem dropKeys_sk (s : State) : (dropKeys s).sk = zeroVec 16 := rfl
@[simp] theorem dropKeys_skValid (s : State) : (dropKeys s).skValid = false := rfl
@[simp] theorem dropKeys_seq (s : State) : (dropKeys s).seq = s.seq := rfl
@[simp] theorem dropKeys_lastSeq (s : State) : (dropKeys s).lastSeq = s.lastSeq := rfl
@[simp] theorem dropKeys_hsState (s : State) : (dropKeys s).hsState = s.hsState := rfl
@[simp] theorem dropKeys_err (s : State) : (dropKeys s).err = s.err := rfl
@[simp] theorem dropKeys_tOpen (s : State) : (dropKeys s).tOpen = s.tOpen := rfl
@[simp] theorem dropKeys_rxBuf (s : State) : (dropKeys s).rxBuf = s.rxBuf := rfl
@[simp] theorem dropKeys_rxCnt (s : State) : (dropKeys s).rxCnt = s.rxCnt := rfl
@[simp] theorem dropKeys_txOut (s : State) : (dropKeys s).txOut = s.txOut := rfl
@[simp] theorem dropKeys_responses (s : State) : (dropKeys s).responses = s.responses := rfl
@[simp] theorem dropKeys_inputs (s : State) : (dropKeys s).inputs = s.inputs := rfl
@[simp] theorem dropKeys_requester (s : State) : (dropKeys s).requester = s.requester := rfl
@[simp] theorem dropKeys_params (s : State) : (dropKeys s).params = s.params := rfl

@[simp] theorem emptySession_ltk (s : State) : (emptySession s).ltk = s.ltk := rfl
@[simp] theorem emptySession_ltkValid (s : State) : (emptySession s).ltkValid = s.ltkValid := rfl
@[simp] theorem emptySession_sid (s : State) : (emptySession s).sid = zeroVec 5 := rfl
@[simp] theorem emptySession_sidValid (s : State) : (emptySession s).sidValid = false := rfl
@[simp] theorem emptySession_sk (s : State) : (emptySession s).sk = zeroVec 16 := rfl
@[simp] theorem emptySession_skValid (s : State) : (emptySession s).skValid = false := rfl
@[simp] theorem emptySession_seq (s : State) : (emptySession s).seq = 0 := rfl
@[simp] theorem emptySession_lastSeq (s : State) : (emptySession s).lastSeq = 0 := rfl
@[simp] theorem emptySession_hsState (s : State) : (emptySession s).hsState = .disconnected := rfl
@[simp] theorem emptySession_err (s : State) : (emptySession s).err = .none := rfl
@[simp] theorem emptySession_tOpen (s : State) : (emptySession s).tOpen = true := rfl
@[simp] theorem emptySession_rxBuf (s : State) : (emptySession s).rxBuf = zeroVec 20 := rfl
@[simp] theorem emptySession_rxCnt (s : State) : (emptySession s).rxCnt = 0 := rfl
@[simp] theorem emptySession_txOut (s : State) : (emptySession s).txOut = s.txOut := rfl
@[simp] theorem emptySession_responses (s : State) : (emptySession s).responses = s.responses := rfl
@[simp] theorem emptySession_inputs (s : State) : (emptySession s).inputs = s.inputs := rfl
@[simp] theorem emptySession_requester (s : State) : (emptySession s).requester = s.requester := rfl
@[simp] theorem emptySession_params (s : State) : (emptySession s).params = s.params := rfl

@[simp] theorem resetRegisters_ltk (s : State) : (resetRegisters s).ltk = State.reset.ltk := rfl
@[simp] theorem resetRegisters_ltkValid (s : State) : (resetRegisters s).ltkValid = State.reset.ltkValid := rfl
@[simp] theorem resetRegisters_sid (s : State) : (resetRegisters s).sid = State.reset.sid := rfl
@[simp] theorem resetRegisters_sidValid (s : State) : (resetRegisters s).sidValid = State.reset.sidValid := rfl
@[simp] theorem resetRegisters_sk (s : State) : (resetRegisters s).sk = State.reset.sk := rfl
@[simp] theorem resetRegisters_skValid (s : State) : (resetRegisters s).skValid = State.reset.skValid := rfl
@[simp] theorem resetRegisters_seq (s : State) : (resetRegisters s).seq = State.reset.seq := rfl
@[simp] theorem resetRegisters_lastSeq (s : State) : (resetRegisters s).lastSeq = State.reset.lastSeq := rfl
@[simp] theorem resetRegisters_hsState (s : State) : (resetRegisters s).hsState = State.reset.hsState := rfl
@[simp] theorem resetRegisters_err (s : State) : (resetRegisters s).err = State.reset.err := rfl
@[simp] theorem resetRegisters_tOpen (s : State) : (resetRegisters s).tOpen = State.reset.tOpen := rfl
@[simp] theorem resetRegisters_rxBuf (s : State) : (resetRegisters s).rxBuf = State.reset.rxBuf := rfl
@[simp] theorem resetRegisters_rxCnt (s : State) : (resetRegisters s).rxCnt = State.reset.rxCnt := rfl
@[simp] theorem resetRegisters_txOut (s : State) : (resetRegisters s).txOut = s.txOut := rfl
@[simp] theorem resetRegisters_responses (s : State) : (resetRegisters s).responses = s.responses := rfl
@[simp] theorem resetRegisters_inputs (s : State) : (resetRegisters s).inputs = s.inputs := rfl
@[simp] theorem resetRegisters_requester (s : State) : (resetRegisters s).requester = s.requester := rfl
@[simp] theorem resetRegisters_params (s : State) : (resetRegisters s).params = s.params := rfl

@[simp] theorem offerFirst_ltk (i : Input) (s : State) : (offerFirst i s).ltk = s.ltk := rfl
@[simp] theorem offerFirst_ltkValid (i : Input) (s : State) : (offerFirst i s).ltkValid = s.ltkValid := rfl
@[simp] theorem offerFirst_sid (i : Input) (s : State) : (offerFirst i s).sid = s.sid := rfl
@[simp] theorem offerFirst_sidValid (i : Input) (s : State) : (offerFirst i s).sidValid = s.sidValid := rfl
@[simp] theorem offerFirst_sk (i : Input) (s : State) : (offerFirst i s).sk = s.sk := rfl
@[simp] theorem offerFirst_skValid (i : Input) (s : State) : (offerFirst i s).skValid = s.skValid := rfl
@[simp] theorem offerFirst_seq (i : Input) (s : State) : (offerFirst i s).seq = s.seq := rfl
@[simp] theorem offerFirst_lastSeq (i : Input) (s : State) : (offerFirst i s).lastSeq = s.lastSeq := rfl
@[simp] theorem offerFirst_hsState (i : Input) (s : State) : (offerFirst i s).hsState = s.hsState := rfl
@[simp] theorem offerFirst_err (i : Input) (s : State) : (offerFirst i s).err = s.err := rfl
@[simp] theorem offerFirst_tOpen (i : Input) (s : State) : (offerFirst i s).tOpen = s.tOpen := rfl
@[simp] theorem offerFirst_rxBuf (i : Input) (s : State) : (offerFirst i s).rxBuf = s.rxBuf := rfl
@[simp] theorem offerFirst_rxCnt (i : Input) (s : State) : (offerFirst i s).rxCnt = s.rxCnt := rfl
@[simp] theorem offerFirst_txOut (i : Input) (s : State) : (offerFirst i s).txOut = s.txOut := rfl
@[simp] theorem offerFirst_responses (i : Input) (s : State) : (offerFirst i s).responses = s.responses := rfl
@[simp] theorem offerFirst_inputs (i : Input) (s : State) : (offerFirst i s).inputs = i :: s.inputs := rfl
@[simp] theorem offerFirst_requester (i : Input) (s : State) : (offerFirst i s).requester = s.requester := rfl
@[simp] theorem offerFirst_params (i : Input) (s : State) : (offerFirst i s).params = s.params := rfl

@[simp] theorem storeByte_ltk (b : Byte) (s : State) : (storeByte b s).ltk = s.ltk := rfl
@[simp] theorem storeByte_ltkValid (b : Byte) (s : State) : (storeByte b s).ltkValid = s.ltkValid := rfl
@[simp] theorem storeByte_sid (b : Byte) (s : State) : (storeByte b s).sid = s.sid := rfl
@[simp] theorem storeByte_sidValid (b : Byte) (s : State) : (storeByte b s).sidValid = s.sidValid := rfl
@[simp] theorem storeByte_sk (b : Byte) (s : State) : (storeByte b s).sk = s.sk := rfl
@[simp] theorem storeByte_skValid (b : Byte) (s : State) : (storeByte b s).skValid = s.skValid := rfl
@[simp] theorem storeByte_seq (b : Byte) (s : State) : (storeByte b s).seq = s.seq := rfl
@[simp] theorem storeByte_lastSeq (b : Byte) (s : State) : (storeByte b s).lastSeq = s.lastSeq := rfl
@[simp] theorem storeByte_hsState (b : Byte) (s : State) : (storeByte b s).hsState = s.hsState := rfl
@[simp] theorem storeByte_err (b : Byte) (s : State) : (storeByte b s).err = s.err := rfl
@[simp] theorem storeByte_tOpen (b : Byte) (s : State) : (storeByte b s).tOpen = s.tOpen := rfl
@[simp] theorem storeByte_rxBuf (b : Byte) (s : State) : (storeByte b s).rxBuf = s.rxBuf.setIfInBounds s.rxCnt.toNat b := rfl
@[simp] theorem storeByte_rxCnt (b : Byte) (s : State) : (storeByte b s).rxCnt = s.rxCnt + 1 := rfl
@[simp] theorem storeByte_txOut (b : Byte) (s : State) : (storeByte b s).txOut = s.txOut := rfl
@[simp] theorem storeByte_responses (b : Byte) (s : State) : (storeByte b s).responses = s.responses := rfl
@[simp] theorem storeByte_inputs (b : Byte) (s : State) : (storeByte b s).inputs = s.inputs := rfl
@[simp] theorem storeByte_requester (b : Byte) (s : State) : (storeByte b s).requester = s.requester := rfl
@[simp] theorem storeByte_params (b : Byte) (s : State) : (storeByte b s).params = s.params := rfl

end Sys2Proof.Machine
end

