-- ==== Sys2Proof/Laws/Ops.lean ====
section
/-! SUPPORT. What each shared operation can do, said once: later proofs cite these lemmas instead of unfolding the
operations. -/

namespace Sys2Proof.Machine

/-- Closing the transport, with no case split: T_OPEN falls, and one CLOSE is emitted if it was up. -/
theorem closeTransport_eq (s : State) :
    closeTransport s =
      { s with tOpen := false, txOut := s.txOut ++ if s.tOpen = true then [.close] else [] } := by
  cases s with
  | mk ltk ltkValid sid sidValid sk skValid seq lastSeq hsState err tOpen => cases tOpen <;> simp [closeTransport, emitClose]

/-- `Fail` outside FAILED (R275). -/
theorem fail_live (code : Err) {s : State} (h : s.hsState ≠ .failed) :
    fail code s =
      { s with
        err := code, hsState := .failed, tOpen := false
        txOut := s.txOut ++ if s.tOpen = true then [.close] else [] } := by
  simp [fail, h, closeTransport_eq]

/-- `Fail` in FAILED changes nothing (R275, D25). -/
theorem fail_sticky (code : Err) {s : State} (h : s.hsState = .failed) : fail code s = s := by
  simp [fail, h]

/-- After `Fail` the state is FAILED. -/
@[simp] theorem fail_hsState (code : Err) (s : State) : (fail code s).hsState = .failed := by
  by_cases h : s.hsState = .failed
  · simp [fail_sticky code h, h]
  · simp [fail_live code h]

/-- T1 as one update (R206). -/
theorem startHandshake_eq (s : State) :
    startHandshake s =
      { s with
        seq := nextSeq s.seq, lastSeq := nextSeq s.seq, rxCnt := 0, hsState := .awaitNsAck
        txOut := s.txOut ++ [.tx (hi8 (nextSeq s.seq)), .tx (lo8 (nextSeq s.seq)), .tx 0x01, .tx 0x00] } := by
  simp [startHandshake, emitTx, seqNext, frame, packetHeader, enc16, typeReqNewSession]

/-- The header check either passes and changes nothing, or fails with the first check that does not hold (R211). -/
theorem headerCheck_cases (expected : Byte) (s : State) :
    (be16 s.rxBuf[0] s.rxBuf[1] = s.lastSeq ∧ s.rxBuf[2] = expected ∧ headerCheck expected s = s) ∨
    (be16 s.rxBuf[0] s.rxBuf[1] ≠ s.lastSeq ∧ headerCheck expected s = fail .protocolMismatch s) ∨
    (be16 s.rxBuf[0] s.rxBuf[1] = s.lastSeq ∧ s.params.ccsDistinct = true ∧ s.rxBuf[2] = 0x07 ∧
      headerCheck expected s = fail .cannotCreateSession s) ∨
    (be16 s.rxBuf[0] s.rxBuf[1] = s.lastSeq ∧ s.rxBuf[2] ≠ expected ∧
      ¬ (s.params.ccsDistinct = true ∧ s.rxBuf[2] = 0x07) ∧
      headerCheck expected s = fail .unexpectedMessageType s) := by
  unfold headerCheck typeCannotCreateSession
  by_cases h1 : be16 s.rxBuf[0] s.rxBuf[1] = s.lastSeq
  · rw [if_neg (not_not.mpr h1)]
    by_cases h2 : s.params.ccsDistinct = true ∧ s.rxBuf[2] = 0x07
    · exact .inr (.inr (.inl ⟨h1, h2.1, h2.2, if_pos h2⟩))
    · rw [if_neg h2]
      by_cases h3 : s.rxBuf[2] = expected
      · exact .inl ⟨h1, h3, if_neg (not_not.mpr h3)⟩
      · exact .inr (.inr (.inr ⟨h1, h3, h2, if_pos h3⟩))
  · exact .inr (.inl ⟨h1, if_pos h1⟩)

/-- T2 and T3 as one update (R213, R214). -/
theorem completeExchange1_eq (s : State) :
    completeExchange1 s =
      { s with
        sid := field 5 s.rxBuf.toList 6, sidValid := true
        sk := kdf s.ltk (field 5 s.rxBuf.toList 6), skValid := true
        hsState := .awaitSsAck, seq := nextSeq s.seq, lastSeq := nextSeq s.seq, rxCnt := 0
        txOut := s.txOut ++ (frame s.params.padWhenAligned (nextSeq s.seq) typeReqSecureSession true
          (kdf s.ltk (field 5 s.rxBuf.toList 6)) (field 5 s.rxBuf.toList 6).toList).map .tx } := rfl

/-- T4 reaches ESTABLISHED, writing nothing else, where the decrypted block begins with SID, and fails where it does not
(R216). -/
theorem completeExchange2_cases (s : State) :
    (field 5 (chainDec s.sk (be16 s.rxBuf[0] s.rxBuf[1]) (field 16 s.rxBuf.toList 4)).toList 0 = s.sid ∧
      completeExchange2 s = { s with hsState := .established }) ∨
    (field 5 (chainDec s.sk (be16 s.rxBuf[0] s.rxBuf[1]) (field 16 s.rxBuf.toList 4)).toList 0 ≠ s.sid ∧
      completeExchange2 s = fail .sessionIdentifierMismatch s) := by
  unfold completeExchange2
  dsimp only
  split
  · exact .inr ⟨‹_›, rfl⟩
  · exact .inl ⟨not_not.mp ‹_›, rfl⟩

/-- A byte that neither ends a header nor completes its response is only stored (R210). -/
theorem acceptByte_store (b : Byte) (s : State) (h4 : s.rxCnt + 1 ≠ 4)
    (h11 : s.hsState = .awaitNsAck → s.rxCnt + 1 ≠ 11) (h20 : s.hsState = .awaitSsAck → s.rxCnt + 1 ≠ 20) :
    acceptByte b s = storeByte b s := by
  have e1 : ¬ ((storeByte b s).hsState = .awaitNsAck ∧ s.rxCnt + 1 = 11) := fun h => h11 h.1 h.2
  have e2 : ¬ ((storeByte b s).hsState = .awaitSsAck ∧ s.rxCnt + 1 = 20) := fun h => h20 h.1 h.2
  simp only [acceptByte, storeByte_rxCnt, h4, e1, e2, if_false]

/-- The 4th byte of a response is stored, and the header is checked (R210, R211). -/
theorem acceptByte_header (b : Byte) (s : State) (h : s.rxCnt = 3) :
    acceptByte b s =
      headerCheck (if s.hsState = .awaitNsAck then typeAckNewSession else typeAckSecureSession) (storeByte b s) := by
  unfold acceptByte
  simp [h]
  rfl

/-- The 11th byte of the exchange-1 response is stored, and exchange 1 is completed (R210, R213). -/
theorem acceptByte_exchange1 (b : Byte) (s : State) (hs : s.hsState = .awaitNsAck) (h : s.rxCnt = 10) :
    acceptByte b s = completeExchange1 (storeByte b s) := by
  unfold acceptByte
  simp [h, hs]

/-- The 20th byte of the exchange-2 response is stored, and exchange 2 is completed (R210, R216). -/
theorem acceptByte_exchange2 (b : Byte) (s : State) (hs : s.hsState = .awaitSsAck) (h : s.rxCnt = 19) :
    acceptByte b s = completeExchange2 (storeByte b s) := by
  unfold acceptByte
  simp [h, hs]

/-- The four things an accepted byte can do. -/
theorem acceptByte_cases (b : Byte) (s : State) :
    acceptByte b s = storeByte b s ∨
    (s.rxCnt = 3 ∧ acceptByte b s =
      headerCheck (if s.hsState = .awaitNsAck then typeAckNewSession else typeAckSecureSession) (storeByte b s)) ∨
    (s.hsState = .awaitNsAck ∧ s.rxCnt = 10 ∧ acceptByte b s = completeExchange1 (storeByte b s)) ∨
    (s.hsState = .awaitSsAck ∧ s.rxCnt = 19 ∧ acceptByte b s = completeExchange2 (storeByte b s)) := by
  have dec (m : BitVec 5) : ∀ c : BitVec 5, c + 1 = m → c = m - 1 := by intro c h; rw [← h]; simp
  by_cases h4 : s.rxCnt + 1 = 4
  · have h := dec 4 _ h4
    exact .inr (.inl ⟨h, acceptByte_header b s h⟩)
  · by_cases h11 : s.hsState = .awaitNsAck ∧ s.rxCnt + 1 = 11
    · have h := dec 11 _ h11.2
      exact .inr (.inr (.inl ⟨h11.1, h, acceptByte_exchange1 b s h11.1 h⟩))
    · by_cases h20 : s.hsState = .awaitSsAck ∧ s.rxCnt + 1 = 20
      · have h := dec 20 _ h20.2
        exact .inr (.inr (.inr ⟨h20.1, h, acceptByte_exchange2 b s h20.1 h⟩))
      · exact .inl (acceptByte_store b s h4 (fun a c => h11 ⟨a, c⟩) (fun a c => h20 ⟨a, c⟩))

/-- `takeFirst` takes the first element that satisfies `p` and leaves the others in their order. -/
theorem takeFirst_some {p : Input → Bool} {l others : List Input} {i : Input} (h : takeFirst p l = some (i, others)) :
    ∃ before after, l = before ++ i :: after ∧ others = before ++ after ∧ p i = true ∧ ∀ x ∈ before, p x = false := by
  induction l generalizing others with
  | nil => simp [takeFirst] at h
  | cons a rest ih =>
    unfold takeFirst at h
    split at h
    · next ha =>
      obtain ⟨rfl, rfl⟩ : a = i ∧ rest = others := by simpa using h
      exact ⟨[], rest, by simp, by simp, ha, by simp⟩
    · next ha =>
      rw [Option.map_eq_some_iff] at h
      obtain ⟨⟨j, os⟩, hj, he⟩ := h
      obtain ⟨rfl, rfl⟩ : j = i ∧ a :: os = others := by simpa using he
      obtain ⟨before, after, rfl, rfl, hp, hb⟩ := ih hj
      exact ⟨a :: before, after, by simp, by simp, hp, by simpa using ⟨by simpa using ha, hb⟩⟩

/-- `takeFirst` finds nothing exactly where no element satisfies `p`. -/
theorem takeFirst_none {p : Input → Bool} {l : List Input} : takeFirst p l = none ↔ ∀ x ∈ l, p x = false := by
  induction l with
  | nil => simp [takeFirst]
  | cons a rest ih => by_cases ha : p a = true <;> simp [takeFirst, ha, ih]

/-- Elements that fail `p`, then one that satisfies it: that one is taken. -/
theorem takeFirst_append {p : Input → Bool} {before after : List Input} {i : Input} (hi : p i = true)
    (hb : ∀ x ∈ before, p x = false) : takeFirst p (before ++ i :: after) = some (i, before ++ after) := by
  induction before with
  | nil => simp [takeFirst, hi]
  | cons a rest ih =>
    have ha : p a = false := hb a (by simp)
    simp [takeFirst, ha, ih (fun x hx => hb x (by simp [hx]))]

/-- Every way a step goes: it waits, runs the decoded instruction of the first enabled input, or rejects that input. -/
theorem step_cases (s : State) :
    (nextInput s = none ∧ step s = .next s) ∨
    (∃ input s1 i, nextInput s = some (input, s1) ∧ decode input = .ok i ∧ step s = exec i s1) ∨
    (∃ input s1 e, nextInput s = some (input, s1) ∧ decode input = .error e ∧ step s = rejectInput e s1) := by
  unfold step
  cases hn : nextInput s with
  | none => exact .inl ⟨rfl, rfl⟩
  | some q =>
    obtain ⟨input, s1⟩ := q
    cases hd : decode input with
    | ok i => exact .inr (.inl ⟨input, s1, i, rfl, hd, by simp [hd]⟩)
    | error e => exact .inr (.inr ⟨input, s1, e, rfl, hd, by simp [hd]⟩)

/-- The input a step serves: an enabled one before which none is enabled; the others stay on offer in their order. -/
theorem nextInput_some {s s1 : State} {input : Input} (h : nextInput s = some (input, s1)) :
    ∃ before after, s.inputs = before ++ input :: after ∧ enabled s input = true ∧
      (∀ x ∈ before, enabled s x = false) ∧
      s1 = { s with inputs := before ++ after, requester := servedRequester s.requester input } := by
  unfold nextInput at h
  rw [Option.map_eq_some_iff] at h
  obtain ⟨⟨j, others⟩, hj, he⟩ := h
  obtain ⟨before, after, hl, rfl, hp, hb⟩ := takeFirst_some hj
  obtain ⟨rfl, rfl⟩ : j = input ∧ _ = s1 := by simpa using he
  exact ⟨before, after, hl, hp, hb, rfl⟩

end Sys2Proof.Machine
end

