-- ==== Sys2Proof/Laws/Exec.lean ====
section
/-! SUPPORT. Everything an instruction can do, said once: the effects of `exec` as an inductive relation with named
cases, and the proof that `exec` has no other effect. Invariants are derived from it by cases. -/

namespace Sys2Proof.Machine

/-- R209: the awaiting states. -/
theorem awaiting_iff (s : State) : awaiting s = true ↔ s.hsState = .awaitNsAck ∨ s.hsState = .awaitSsAck := by
  simp [awaiting]

/-- R217: where a transport failure matters. -/
theorem failureMatters_iff (s : State) :
    failureMatters s = true ↔ s.hsState = .awaitNsAck ∨ s.hsState = .awaitSsAck ∨ s.hsState = .established ∨
      s.hsState = .disconnected ∧ s.tOpen = true := by
  unfold failureMatters
  cases s.hsState <;> simp

/-- `Fail` outside FAILED is what a failure records. -/
theorem fail_eq_failedBy (code : Err) {s : State} (h : s.hsState ≠ .failed) : fail code s = failedBy code s :=
  fail_live code h

/-- Storing a byte past the header leaves the header's bytes. -/
theorem storeByte_rxBuf_of_lt (b : Byte) (s : State) {i : Nat} (h : i < s.rxCnt.toNat) (hi : i < 20) :
    (storeByte b s).rxBuf[i] = s.rxBuf[i] := by
  simp only [storeByte_rxBuf]
  rw [Vector.getElem_setIfInBounds_ne hi (by omega)]

/-- The block of the exchange-2 response once its last byte is stored (R216). -/
theorem field_storeByte_block (b : Byte) {s : State} (h : s.rxCnt = 19) :
    field 16 (storeByte b s).rxBuf.toList 4 =
      Vector.ofFn fun j : Fin 16 => if hj : j.val < 15 then s.rxBuf[4 + j.val] else b := by
  have hn : s.rxCnt.toNat = 19 := by rw [h]; rfl
  apply Vector.ext
  intro i hi
  simp only [field, Vector.getElem_ofFn, List.getD_eq_getElem?_getD]
  rw [List.getElem?_eq_getElem (by simp; omega), Option.getD_some, Vector.getElem_toList]
  split
  · exact storeByte_rxBuf_of_lt b s (by omega) (by omega)
  · obtain rfl : i = 15 := by omega
    simp [hn]

/-- R216: the check that `completeExchange2` makes after the 20th byte. -/
theorem sidMatches_iff (b : Byte) {s : State} (h : s.rxCnt = 19) :
    field 5 (chainDec (storeByte b s).sk (be16 (storeByte b s).rxBuf[0] (storeByte b s).rxBuf[1])
      (field 16 (storeByte b s).rxBuf.toList 4)).toList 0 = (storeByte b s).sid ↔ SidMatches s b := by
  have hn : s.rxCnt.toNat = 19 := by rw [h]; rfl
  rw [storeByte_rxBuf_of_lt b s (by omega) (by omega), storeByte_rxBuf_of_lt b s (by omega) (by omega),
    field_storeByte_block b h]
  unfold SidMatches
  rw [Vector.ext_iff]
  refine forall₂_congr fun i hi => ?_
  simp [field, List.getD_eq_getElem?_getD, show i < 16 by omega]

/-- What accepting a byte can do in an awaiting state (R210 to R216). -/
inductive ByteEffect (b : Byte) (s : State) : State → Prop
  | stored (h4 : s.rxCnt ≠ 3) (h11 : s.hsState = .awaitNsAck → s.rxCnt ≠ 10)
      (h20 : s.hsState = .awaitSsAck → s.rxCnt ≠ 19) : ByteEffect b s (storeByte b s)
  | headerPassed (h4 : s.rxCnt = 3) (hp : HeaderPasses s) : ByteEffect b s (storeByte b s)
  | headerFailed (h4 : s.rxCnt = 3) (code : Err) (hf : HeaderFails s code) :
      ByteEffect b s (failedBy code (storeByte b s))
  | exchange1 (hs : s.hsState = .awaitNsAck) (h11 : s.rxCnt = 10) :
      ByteEffect b s (completeExchange1 (storeByte b s))
  | established (hs : s.hsState = .awaitSsAck) (h20 : s.rxCnt = 19) (hm : SidMatches s b) :
      ByteEffect b s { storeByte b s with hsState := .established }
  | mismatch (hs : s.hsState = .awaitSsAck) (h20 : s.rxCnt = 19) (hm : ¬ SidMatches s b) :
      ByteEffect b s (failedBy .sessionIdentifierMismatch (storeByte b s))

/-- The three causes of a failed header check (R211). -/
theorem HeaderFails_code {s : State} {code : Err} (h : HeaderFails s code) :
    code = .protocolMismatch ∨ code = .cannotCreateSession ∨ code = .unexpectedMessageType := by
  rcases h with ⟨-, h⟩ | ⟨-, ⟨-, h⟩ | ⟨-, -, h⟩⟩
  · exact .inl h
  · exact .inr (.inl h)
  · exact .inr (.inr h)

theorem acceptByte_effect (b : Byte) {s : State} (ha : s.hsState = .awaitNsAck ∨ s.hsState = .awaitSsAck) :
    ByteEffect b s (acceptByte b s) := by
  have live : (storeByte b s).hsState ≠ .failed := by rcases ha with h | h <;> simp [h]
  by_cases h3 : s.rxCnt = 3
  · rw [acceptByte_header b s h3]
    change ByteEffect b s (headerCheck (expectedType s) (storeByte b s))
    have hn : s.rxCnt.toNat = 3 := by rw [h3]; rfl
    have cases4 := headerCheck_cases (expectedType s) (storeByte b s)
    rw [storeByte_rxBuf_of_lt b s (by omega) (by omega), storeByte_rxBuf_of_lt b s (by omega) (by omega),
      storeByte_rxBuf_of_lt b s (by omega) (by omega)] at cases4
    rcases cases4 with ⟨echo, ht, e⟩ | ⟨echo, e⟩ | ⟨echo, hc, ht, e⟩ | ⟨echo, ht, hc, e⟩
    · rw [e]
      exact .headerPassed h3 ⟨echo, ht⟩
    all_goals rw [e, fail_eq_failedBy _ live]
    · exact .headerFailed h3 _ (.inl ⟨echo, rfl⟩)
    · exact .headerFailed h3 _ (.inr ⟨echo, .inl ⟨⟨hc, ht⟩, rfl⟩⟩)
    · exact .headerFailed h3 _ (.inr ⟨echo, .inr ⟨hc, ht, rfl⟩⟩)
  by_cases h10 : s.hsState = .awaitNsAck ∧ s.rxCnt = 10
  · rw [acceptByte_exchange1 b s h10.1 h10.2]
    exact .exchange1 h10.1 h10.2
  by_cases h19 : s.hsState = .awaitSsAck ∧ s.rxCnt = 19
  · rw [acceptByte_exchange2 b s h19.1 h19.2]
    have cases2 := completeExchange2_cases (storeByte b s)
    rw [sidMatches_iff b h19.2, ne_eq, sidMatches_iff b h19.2] at cases2
    rcases cases2 with ⟨hm, e⟩ | ⟨hm, e⟩ <;> rw [e]
    · exact .established h19.1 h19.2 hm
    · rw [fail_eq_failedBy _ live]
      exact .mismatch h19.1 h19.2 hm
  have pred (m : BitVec 5) : s.rxCnt + 1 = m → s.rxCnt = m - 1 := by intro h; rw [← h]; simp
  rw [acceptByte_store b s (fun h => h3 (pred _ h)) (fun a h => h10 ⟨a, pred _ h⟩) (fun a h => h19 ⟨a, pred _ h⟩)]
  exact .stored h3 (fun a h => h10 ⟨a, h⟩) (fun a h => h19 ⟨a, h⟩)

/-- What CLOSE can do before it answers (R219). -/
inductive CloseEffect (s : State) : State → Prop
  | aborted (hs : s.hsState = .awaitNsAck ∨ s.hsState = .awaitSsAck) : CloseEffect s (failedBy .aborted s)
  | ended (hs : s.hsState = .established) :
      CloseEffect s { dropKeys (emitClose { s with tOpen := false }) with hsState := .disconnected }
  | closed (hs : s.hsState = .disconnected) : CloseEffect s (closeTransport s)
  | nothing (hs : s.hsState = .failed) : CloseEffect s s

theorem closeSession_effect (s : State) : CloseEffect s (closeSession s) := by
  unfold closeSession
  cases hs : s.hsState with
  | disconnected => exact .closed hs
  | awaitNsAck => rw [fail_eq_failedBy _ (by simp [hs])]; exact .aborted (.inl hs)
  | awaitSsAck => rw [fail_eq_failedBy _ (by simp [hs])]; exact .aborted (.inr hs)
  | established => exact .ended hs
  | failed => exact .nothing hs

/-- Everything an instruction can do. `answer` covers the commands that only respond and every refused command. -/
inductive Effect (s : State) : Instr → State → Prop
  | answer (i : Instr) (st : Status) (data : List Byte) (hr : ∀ b, i ≠ .rxByte b) (hk : ∀ k, i ≠ .tErr k)
      (hi : i ≠ .reset) : Effect s i (respond st data s)
  | loadLtk (l : Key) (hs : s.hsState = .disconnected ∨ s.hsState = .failed) :
      Effect s (.loadLtk l) (respond .ok [] { s with ltk := l, ltkValid := true })
  | newSession (hs : s.hsState = .disconnected ∧ s.tOpen = false ∨ s.hsState = .failed) :
      Effect s .newSession (respond .ok [] (emptySession s))
  | hsStart (hs : s.hsState = .disconnected) (ho : s.tOpen = true) (hk : s.ltkValid = true) :
      Effect s .hsStart (respond .ok [] (startHandshake s))
  | close (s' : State) (he : CloseEffect s s') : Effect s .close (respond .ok [] s')
  | send (t : Byte) (p : List Byte) (hs : s.hsState = .established) :
      Effect s (.send t p) (respond .ok (enc16 (nextSeq s.seq))
        (emitTx (frame s.params.padWhenAligned (nextSeq s.seq) t true s.sk p) (seqNext s)))
  | seqNext : Effect s .seqNext (respond .ok (enc16 (nextSeq s.seq)) (seqNext s))
  | accepted (b : Byte) (s' : State) (ha : s.hsState = .awaitNsAck ∨ s.hsState = .awaitSsAck)
      (he : ByteEffect b s s') : Effect s (.rxByte b) s'
  | waits (b : Byte) (ha : ¬ (s.hsState = .awaitNsAck ∨ s.hsState = .awaitSsAck)) :
      Effect s (.rxByte b) (offerFirst (.rxByte b) s)
  | failed (k : TErrKind) (hs : s.hsState = .awaitNsAck ∨ s.hsState = .awaitSsAck ∨ s.hsState = .established ∨
      s.hsState = .disconnected ∧ s.tOpen = true) : Effect s (.tErr k) (failedBy .transportError s)
  | ignored (k : TErrKind) (hs : s.hsState = .failed ∨ s.hsState = .disconnected ∧ s.tOpen = false) :
      Effect s (.tErr k) s
  | reset : Effect s .reset (resetRegisters s)

/-- `exec` has no effect but these. -/
theorem exec_effect {i : Instr} {s t : State} (h : exec i s = .next t) : Effect s i t := by
  cases i <;> simp only [exec] at h
  case loadLtk l =>
    unfold execLoadLtk at h
    split at h <;> injection h with h <;> subst h
    · exact .loadLtk l ‹_›
    · exact .answer _ _ _ (by simp) (by simp) (by simp)
  case newSession =>
    unfold execNewSession at h
    split at h <;> injection h with h <;> subst h
    · exact .newSession ‹_›
    · exact .answer _ _ _ (by simp) (by simp) (by simp)
  case hsStart =>
    unfold execHsStart at h
    split at h <;> injection h with h <;> subst h
    · next c => exact .hsStart c.1 c.2.1 c.2.2
    · exact .answer _ _ _ (by simp) (by simp) (by simp)
  case close =>
    injection h with h
    subst h
    exact .close _ (closeSession_effect s)
  case readSk =>
    unfold execReadSk at h
    split at h <;> injection h with h <;> subst h <;> exact .answer _ _ _ (by simp) (by simp) (by simp)
  case send y p =>
    unfold execSend at h
    split at h <;> injection h with h <;> subst h
    · exact .send y p ‹_›
    · exact .answer _ _ _ (by simp) (by simp) (by simp)
  case seqNext =>
    injection h with h
    subst h
    exact .seqNext
  case rxByte b =>
    unfold execRxByte at h
    split at h <;> injection h with h <;> subst h
    · next c => exact .accepted b _ ((awaiting_iff s).mp c) (acceptByte_effect b ((awaiting_iff s).mp c))
    · next c => exact .waits b (fun d => c ((awaiting_iff s).mpr d))
  case tErr k =>
    unfold execTErr at h
    split at h <;> injection h with h <;> subst h
    · next c =>
      have hs := (failureMatters_iff s).mp c
      rw [fail_eq_failedBy]
      · exact .failed k hs
      · rcases hs with d | d | d | d <;> simp [d]
    · next c =>
      refine .ignored k ?_
      rw [failureMatters_iff] at c
      cases hs : s.hsState <;> simp_all
  case reset =>
    injection h with h
    subst h
    exact .reset
  all_goals
    injection h with h
    subst h
    exact .answer _ _ _ (by simp) (by simp) (by simp)

end Sys2Proof.Machine
end

