-- ==== Sys2Proof/Laws/PerInstr.lean ====
section
/-! SUPPORT. Families of lemmas, one lemma per instruction (LAWS.json). -/

namespace Sys2Proof.Laws.EncodesToRow
open Sys2Proof Sys2Proof.Machine

/-- R90, R95: the encoding of a command is a frame whose first two bytes match the command's row of the opcode table. -/
def Statement (i : Instr) : Prop :=
  ∀ (r : Nat) (row : OpcodeRow), opcodeRow i = some row → WellFormed i = true →
    ∃ bytes, encode r i = .cmd r bytes ∧ frameWord bytes &&& row.mask = row.val

/-- A row is matched by a frame whose first two bytes match it. -/
theorem of_bytes {i : Instr} {m v : BitVec 16} (f : Nat → List Byte) (he : ∀ r, encode r i = .cmd r (f r))
    (hr : opcodeRow i = some ⟨m, v⟩) (hw : WellFormed i = true → ∀ r, frameWord (f r) &&& m = v) : Statement i := by
  intro r row h hwf
  obtain rfl : (⟨m, v⟩ : OpcodeRow) = row := by rw [hr] at h; exact Option.some.inj h
  exact ⟨f r, he r, hw hwf r⟩

/-- The word of a frame whose first byte is `opc` matches a row that fixes only the opcode's bits. -/
theorem opcode_match (opc len mo vo : Byte) (rest : List Byte) (h : opc &&& mo = vo) :
    frameWord (opc :: len :: rest) &&& (mo ++ 0x00#8) = vo ++ 0x00#8 := by
  show (opc ++ len) &&& (mo ++ 0x00#8) = vo ++ 0x00#8
  rw [BitVec.and_append, h]
  simp

theorem nop : Statement .nop := of_bytes (fun _ => _) (fun _ => rfl) rfl (fun _ _ => by decide)
theorem loadLtk (l : Key) : Statement (.loadLtk l) :=
  of_bytes (fun _ => _) (fun _ => rfl) rfl (fun _ _ => by simp [frameWord, commandFrame, byteAt, be16, enc8])
theorem newSession : Statement .newSession := of_bytes (fun _ => _) (fun _ => rfl) rfl (fun _ _ => by decide)
theorem hsStart : Statement .hsStart := of_bytes (fun _ => _) (fun _ => rfl) rfl (fun _ _ => by decide)
theorem close : Statement .close := of_bytes (fun _ => _) (fun _ => rfl) rfl (fun _ _ => by decide)
theorem readStatus : Statement .readStatus := of_bytes (fun _ => _) (fun _ => rfl) rfl (fun _ _ => by decide)
theorem readSk : Statement .readSk := of_bytes (fun _ => _) (fun _ => rfl) rfl (fun _ _ => by decide)
theorem kdf (l : Key) (sid : Sid) : Statement (.kdf l sid) :=
  of_bytes (fun _ => _) (fun _ => rfl) rfl (fun _ _ => by simp [frameWord, commandFrame, byteAt, be16, enc8])
theorem chainEnc (k : Key) (buf : List Byte) : Statement (.chainEnc k buf) :=
  of_bytes (fun _ => _) (fun _ => rfl) rfl (fun _ _ => opcode_match _ _ 0xFF 0x11 _ (by decide))
theorem chainDec (k : Key) (sq : Sys2Proof.Seq) (blk : Block) : Statement (.chainDec k sq blk) :=
  of_bytes (fun _ => _) (fun _ => rfl) rfl (fun _ _ => by simp [frameWord, commandFrame, byteAt, be16, enc8, enc16])
theorem frame (sq : Sys2Proof.Seq) (t : Byte) (kp : Bool) (k : Key) (p : List Byte) :
    Statement (.frame sq t kp k p) :=
  of_bytes (fun _ => _) (fun _ => rfl) rfl (fun _ _ => opcode_match _ _ 0xFF 0x13 _ (by decide))
theorem send (t : Byte) (p : List Byte) : Statement (.send t p) :=
  of_bytes (fun _ => _) (fun _ => rfl) rfl (fun _ _ => opcode_match _ _ 0xFF 0x14 _ (by decide))
theorem seqNext : Statement .seqNext := of_bytes (fun _ => _) (fun _ => rfl) rfl (fun _ _ => by decide)
theorem reserved07 (len : Byte) (rest : List Byte) : Statement (.reserved07 len rest) :=
  of_bytes (fun _ => _) (fun _ => rfl) rfl (fun _ _ => opcode_match _ _ 0xFF 0x07 _ (by decide))
theorem reserved08 (x : BitVec 3) (len : Byte) (rest : List Byte) : Statement (.reserved08 x len rest) :=
  of_bytes (fun _ => _) (fun _ => rfl) rfl (fun _ _ => opcode_match _ _ 0xF8 0x08 _ (by clear * -; revert x; decide))
theorem reserved15 (len : Byte) (rest : List Byte) : Statement (.reserved15 len rest) :=
  of_bytes (fun _ => _) (fun _ => rfl) rfl (fun _ _ => opcode_match _ _ 0xFF 0x15 _ (by decide))
theorem reserved16 (x : BitVec 1) (len : Byte) (rest : List Byte) : Statement (.reserved16 x len rest) :=
  of_bytes (fun _ => _) (fun _ => rfl) rfl (fun _ _ => opcode_match _ _ 0xFE 0x16 _ (by clear * -; revert x; decide))
theorem reserved18 (x : BitVec 3) (len : Byte) (rest : List Byte) : Statement (.reserved18 x len rest) :=
  of_bytes (fun _ => _) (fun _ => rfl) rfl (fun _ _ => opcode_match _ _ 0xF8 0x18 _ (by clear * -; revert x; decide))
theorem reserved21 (len : Byte) (rest : List Byte) : Statement (.reserved21 len rest) :=
  of_bytes (fun _ => _) (fun _ => rfl) rfl (fun _ _ => opcode_match _ _ 0xFF 0x21 _ (by decide))
theorem reserved22 (x : BitVec 1) (len : Byte) (rest : List Byte) : Statement (.reserved22 x len rest) :=
  of_bytes (fun _ => _) (fun _ => rfl) rfl (fun _ _ => opcode_match _ _ 0xFE 0x22 _ (by clear * -; revert x; decide))
theorem reserved24 (x : BitVec 2) (len : Byte) (rest : List Byte) : Statement (.reserved24 x len rest) :=
  of_bytes (fun _ => _) (fun _ => rfl) rfl (fun _ _ => opcode_match _ _ 0xFC 0x24 _ (by clear * -; revert x; decide))
theorem reserved28 (x : BitVec 3) (len : Byte) (rest : List Byte) : Statement (.reserved28 x len rest) :=
  of_bytes (fun _ => _) (fun _ => rfl) rfl (fun _ _ => opcode_match _ _ 0xF8 0x28 _ (by clear * -; revert x; decide))
theorem reserved30 (x : BitVec 4) (len : Byte) (rest : List Byte) : Statement (.reserved30 x len rest) :=
  of_bytes (fun _ => _) (fun _ => rfl) rfl (fun _ _ => opcode_match _ _ 0xF0 0x30 _ (by clear * -; revert x; decide))
theorem reserved40 (x : BitVec 6) (len : Byte) (rest : List Byte) : Statement (.reserved40 x len rest) :=
  of_bytes (fun _ => _) (fun _ => rfl) rfl (fun _ _ => opcode_match _ _ 0xC0 0x40 _ (by clear * -; revert x; decide))
theorem reserved80 (x : BitVec 7) (len : Byte) (rest : List Byte) : Statement (.reserved80 x len rest) :=
  of_bytes (fun _ => _) (fun _ => rfl) rfl (fun _ _ => opcode_match _ _ 0x80 0x80 _ (by clear * -; revert x; decide))
theorem rxByte (b : Byte) : Statement (.rxByte b) := by intro r row h; cases h
theorem tErr (k : TErrKind) : Statement (.tErr k) := by intro r row h; cases h
theorem reset : Statement .reset := by intro r row h; cases h

end Sys2Proof.Laws.EncodesToRow
end

