-- ==== Sys2Proof/Tests/Slice0.lean ====
section
/-! SUPPORT. Tests of the model, each expected value taken from spec/ (the vector or rule is named), and for every
statement with hypotheses a state and operands that meet them (`witness_…`). -/

namespace Sys2Proof.Tests
open Sys2Proof Sys2Proof.Machine

/-- The long-term key of spec/95_test_vectors.md, 00 01 … 0f. -/
def keyA : Key := #v[0x00, 0x01, 0x02, 0x03, 0x04, 0x05, 0x06, 0x07, 0x08, 0x09, 0x0a, 0x0b, 0x0c, 0x0d, 0x0e, 0x0f]
/-- The session identifier of the vectors. -/
def sidA : Sid := #v[0x20, 0x21, 0x22, 0x23, 0x24]
/-- The session key of the vectors, KDF of the two (KD1). -/
def skA : Key := #v[0x00, 0x01, 0x02, 0x03, 0x04, 0x05, 0x06, 0x07, 0x08, 0x09, 0x0a, 0x2b, 0x2d, 0x2f, 0x2d, 0x2b]
/-- The FIPS-197 plaintext and its ciphertext under `keyA` (A1). -/
def plainA : Block :=
  #v[0x00, 0x11, 0x22, 0x33, 0x44, 0x55, 0x66, 0x77, 0x88, 0x99, 0xaa, 0xbb, 0xcc, 0xdd, 0xee, 0xff]
def cipherA : Block :=
  #v[0x69, 0xc4, 0xe0, 0xd8, 0x6a, 0x7b, 0x04, 0x30, 0xd8, 0xcd, 0xb7, 0x80, 0x70, 0xb4, 0xc5, 0x5a]

/-- An empty session on an open transport, the key loaded. -/
def ready : State := { State.reset with ltk := keyA, ltkValid := true, tOpen := true }
/-- Exchange 1 outstanding with number 1, `n` response bytes taken, the first eleven those of program P1. -/
def awaitNs (n : BitVec 5) : State :=
  { ready with
    hsState := .awaitNsAck, seq := 1, lastSeq := 1, rxCnt := n
    rxBuf := #v[0, 1, 2, 0, 0xa5, 0x5a, 0x20, 0x21, 0x22, 0x23, 0, 0, 0, 0, 0, 0, 0, 0, 0, 0] }
/-- Exchange 2 outstanding with number 2, `n` response bytes taken, the first nineteen those of program P1. -/
def awaitSs (n : BitVec 5) : State :=
  { ready with
    hsState := .awaitSsAck, seq := 2, lastSeq := 2, rxCnt := n, sid := sidA, sidValid := true, sk := skA
    skValid := true
    rxBuf := #v[0, 2, 4, 0, 0x10, 0x38, 0x5f, 0x72, 0x44, 0x6f, 0x97, 0x03, 0xe0, 0xc9, 0xd4, 0xf6, 0xfb, 0xa6, 0x4a,
      0] }
/-- The session that program P1 establishes. -/
def established : State := { awaitSs 20 with hsState := .established }
/-- A failed session. -/
def failed : State := { ready with hsState := .failed, err := .protocolMismatch, tOpen := false }

/-- The bytes of the responses after one instruction. -/
def answers : Host.Outcome State Fault Refusal → List (List Byte)
  | .next t => t.responses.map (·.bytes)
  | .fault _ => []
  | .refused _ => []

/-- A property of the next state. -/
def after (p : State → Bool) : Host.Outcome State Fault Refusal → Bool
  | .next t => p t
  | .fault _ => false
  | .refused _ => false

/-- The decoder's answer to a command frame. -/
def read (bytes : List Byte) : Except DecodeError Instr := decode (.cmd 0 bytes)

/-! ### WellFormed refuses what R93 gives no encoding -/

theorem test_wellFormed_chainEnc_short : WellFormed (.chainEnc keyA (zeros 3)) = false := by decide
theorem test_wellFormed_chainEnc_long : WellFormed (.chainEnc keyA (zeros 240)) = false := by decide +kernel
theorem test_wellFormed_frame_long : WellFormed (.frame 0 0 true keyA (zeros 236)) = false := by decide +kernel
theorem test_wellFormed_send_long : WellFormed (.send 0 (zeros 255)) = false := by decide +kernel

/-! ### Decoding: words written out from R93 to R95 and R102 -/

theorem test_decode_nop : read [0b00000000, 0] = .ok .nop := rfl
theorem test_decode_loadLtk : read ([0b00000001, 0b00010000] ++ keyA.toList) = .ok (.loadLtk keyA) := rfl
theorem test_decode_newSession : read [0b00000010, 0] = .ok .newSession := rfl
theorem test_decode_hsStart : read [0b00000011, 0] = .ok .hsStart := rfl
theorem test_decode_close : read [0b00000100, 0] = .ok .close := rfl
theorem test_decode_readStatus : read [0b00000101, 0] = .ok .readStatus := rfl
theorem test_decode_readSk : read [0b00000110, 0] = .ok .readSk := rfl
theorem test_decode_kdf : read ([0b00010000, 0b00010101] ++ keyA.toList ++ sidA.toList) = .ok (.kdf keyA sidA) := rfl
theorem test_decode_chainEnc : read ([0b00010001, 21] ++ keyA.toList ++ [0x00, 0x01, 0x20, 0x7f, 0xaa]) =
    .ok (.chainEnc keyA [0x00, 0x01, 0x20, 0x7f, 0xaa]) := rfl
theorem test_decode_chainDec : read ([0b00010010, 0b00100010] ++ keyA.toList ++ [0x12, 0x34] ++ cipherA.toList) =
    .ok (.chainDec keyA 0x1234 cipherA) := rfl
theorem test_decode_frame : read ([0b00010011, 23, 0x01, 0x02, 0x20, 0x01] ++ keyA.toList ++ [0xaa, 0xbb, 0xcc]) =
    .ok (.frame 0x0102 0x20 true keyA [0xaa, 0xbb, 0xcc]) := rfl
theorem test_decode_send : read [0b00010100, 4, 0x20, 1, 2, 3] = .ok (.send 0x20 [1, 2, 3]) := rfl
theorem test_decode_seqNext : read [0b00100000, 0] = .ok .seqNext := rfl
theorem test_decode_reserved07 : read [0b00000111, 5, 9] = .ok (.reserved07 5 [9]) := rfl
theorem test_decode_reserved08 : read [0b00001101, 5] = .ok (.reserved08 0b101 5 []) := rfl
theorem test_decode_reserved15 : read [0b00010101, 0] = .ok (.reserved15 0 []) := rfl
theorem test_decode_reserved16 : read [0b00010111, 0] = .ok (.reserved16 0b1 0 []) := rfl
theorem test_decode_reserved18 : read [0b00011110, 0] = .ok (.reserved18 0b110 0 []) := rfl
theorem test_decode_reserved21 : read [0b00100001, 0] = .ok (.reserved21 0 []) := rfl
theorem test_decode_reserved22 : read [0b00100011, 0] = .ok (.reserved22 0b1 0 []) := rfl
theorem test_decode_reserved24 : read [0b00100110, 0] = .ok (.reserved24 0b10 0 []) := rfl
theorem test_decode_reserved28 : read [0b00101011, 0] = .ok (.reserved28 0b011 0 []) := rfl
theorem test_decode_reserved30 : read [0b00111001, 0] = .ok (.reserved30 0b1001 0 []) := rfl
theorem test_decode_reserved40 : read [0b01100101, 0] = .ok (.reserved40 0b100101 0 []) := rfl
theorem test_decode_reserved80 : read [0b11000011, 0] = .ok (.reserved80 0b1000011 0 []) := rfl
theorem test_decode_rxByte : decode (.rxByte 0b10100101) = .ok (.rxByte 0xa5) := rfl
theorem test_decode_tErr : decode (.tErr 0b10) = .ok (.tErr .eof) := rfl
theorem test_decode_reset : decode .reset = .ok .reset := rfl

/-- R96's checks in their order: CT14, CT15, CT17, KD6, CO12; R102's code 3. -/
theorem test_decode_rejects :
    read [] = .error .tooShort ∧ read [0x05] = .error .tooShort ∧ read [0x06, 1, 0] = .error .illegalLen ∧
    read [0x10, 0x15, 0] = .error .lengthMismatch ∧ read [0x13, 0x13, 0, 1] = .error .lengthMismatch ∧
    read ([0x13, 20, 0, 1, 1, 2] ++ zeros 16) = .error .keyPresent ∧ decode (.tErr 3) = .error .errPortKind3 :=
  ⟨rfl, rfl, rfl, rfl, rfl, rfl, rfl⟩

/-- R100's lengths and forms: a 3-byte buffer, a requester with no number, a word too few, and the kinds of TERR. -/
theorem test_assembleLine :
    assembleLine "CHAIN_ENC key=00000000000000000000000000000000, buf=000520" = .error .length ∧
      assembleLine "@: NOP" = .error .requester ∧ assembleLine "LOAD_LTK" = .error .syntaxForm ∧
      assembleLine "TERR eof" = .ok [.tErr 2] ∧ assembleLine "@1:" = .error .requester := ⟨rfl, rfl, rfl, rfl, rfl⟩

/-- R103's lines. -/
theorem test_lineText : lineText (.loadLtk keyA) = some "LOAD_LTK 000102030405060708090a0b0c0d0e0f" ∧
    lineText (.chainDec keyA 0x1234 cipherA) =
      some "CHAIN_DEC key=000102030405060708090a0b0c0d0e0f, seq=1234, blk=69c4e0d86a7b0430d8cdb78070b4c55a" ∧
    lineText (.frame 0x0001 0x01 false (zeroVec 16) []) = some "FRAME seq=0001, type=01, key=absent, payload=" :=
  ⟨rfl, rfl, rfl⟩

/-- The host's numbering: LOAD_LTK's row 0x0110 and its 16 operand bytes of zeros, an event byte, and Reset. -/
theorem test_decodeTableWord :
    decodeTableWord 16 0x0110 = some (.loadLtk (zeroVec 16)) ∧ decodeTableWord 16 0x1222 =
      some (.chainDec (zeroVec 16) 0 (zeroVec 16)) ∧ decodeTableWord 16 0x8000 = some (.reserved80 0 0 []) ∧
    decodeTableWord 8 0x5a = some (.rxByte 0x5a) ∧ decodeTableWord 0 0 = some .reset := ⟨rfl, rfl, rfl, rfl, rfl⟩

/-! ### One instruction each (the vectors of spec/95_test_vectors.md by their names) -/

/-- CT1. -/
theorem test_nop : answers (exec .nop State.reset) = [[0, 0]] := by decide
/-- CT4. -/
theorem test_loadLtk : after (fun t => t.ltk = keyA ∧ t.ltkValid = true ∧ t.responses = [⟨0, [0, 0]⟩])
    (exec (.loadLtk keyA) State.reset) := by decide
/-- CT5. -/
theorem test_loadLtk_awaiting : answers (exec (.loadLtk skA) (awaitNs 0)) = [[2, 0]] := by decide
/-- CT18. -/
theorem test_newSession_failed : after (fun t => t.err = .none ∧ t.seq = 0 ∧ t.tOpen = true ∧ t.ltk = keyA)
    (exec .newSession failed) := by decide
/-- CT9. -/
theorem test_newSession_open : answers (exec .newSession ready) = [[2, 0]] := by decide
/-- P1's first packet; the start state is `ready`. -/
theorem test_hsStart : after (fun t => t.txOut = [.tx 0, .tx 1, .tx 1, .tx 0] ∧ t.hsState = .awaitNsAck)
    (exec .hsStart ready) := by decide
/-- SQ7. -/
theorem test_hsStart_last : after (fun t => t.seq = 0xffff ∧ t.txOut = [.tx 0xff, .tx 0xff, .tx 1, .tx 0])
    (exec .hsStart { ready with seq := 0xfffe }) := by decide
/-- HS19. -/
theorem test_close_awaiting : after (fun t => t.hsState = .failed ∧ t.err = .aborted ∧ t.txOut = [.close])
    (exec .close (awaitNs 0)) := by decide
/-- CT19. -/
theorem test_close_established : after
    (fun t => t.hsState = .disconnected ∧ t.txOut = [.close] ∧ t.sid = zeroVec 5 ∧ t.sk = zeroVec 16)
    (exec .close established) := by decide
/-- P1's READ_STATUS in ESTABLISHED. -/
theorem test_readStatus : answers (exec .readStatus established) = [[0, 8, 0x03, 0x0f, 0, 0x14, 0, 2, 0, 2]] := by
  decide
/-- CT3. -/
theorem test_readStatus_reset : answers (exec .readStatus State.reset) = [[0, 8, 0, 0, 0, 0, 0, 0, 0, 0]] := by decide
/-- P1's READ_SK. -/
theorem test_readSk : answers (exec .readSk established) = [[0, 0x15] ++ skA.toList ++ sidA.toList] := by decide
/-- CT6. -/
theorem test_readSk_reset : answers (exec .readSk State.reset) = [[2, 0]] := by decide
/-- SD3. -/
theorem test_send_disconnected : answers (exec (.send 0x20 []) State.reset) = [[2, 0]] := by decide
/-- SQ4. -/
theorem test_seqNext_wraps : answers (exec .seqNext { ready with seq := 0xffff }) = [[0, 2, 0, 1]] := by decide
/-- SQ3. -/
theorem test_seqNext : answers (exec .seqNext { failed with seq := 0xfffe }) = [[0, 2, 0xff, 0xff]] := by decide
/-- CT12 and R254: one answer for every reserved row. -/
theorem test_reserved : [exec (.reserved07 0 []) ready, exec (.reserved08 1 2 [3]) ready, exec (.reserved15 0 []) ready,
    exec (.reserved16 1 0 []) ready, exec (.reserved18 1 0 []) ready, exec (.reserved21 0 []) ready,
    exec (.reserved22 0 0 []) ready, exec (.reserved24 3 0 []) ready, exec (.reserved28 7 0 []) ready,
    exec (.reserved30 9 0 []) ready, exec (.reserved40 37 0 []) ready, exec (.reserved80 127 5 [0]) ready].map answers =
    List.replicate 12 [[3, 0]] := by decide
/-- HS22. -/
theorem test_tErr_open : after (fun t => t.hsState = .failed ∧ t.err = .transportError ∧ t.txOut = [.close])
    (exec (.tErr .read) ready) := by decide
/-- HS21, HS23. -/
theorem test_tErr_ignored : exec (.tErr .read) failed = .next failed ∧
    exec (.tErr .read) State.reset = .next State.reset := ⟨rfl, rfl⟩
/-- CT20. -/
theorem test_reset : exec .reset established = .next State.reset := rfl
/-- R12: the first input is served first; HS24: an RX byte that is not enabled waits, and the command behind it runs. -/
theorem test_step_order : after (fun t => t.inputs = [.rxByte 0] ∧ t.responses = [⟨3, [0, 0]⟩])
    (step { State.reset with inputs := [.rxByte 0, .cmd 3 [0, 0]] }) := by decide
/-- The first instruction after reset is the one placed. -/
theorem test_withFetchWord : answers (step (State.reset.withFetchWord 16 0x2000)) = [[0, 2, 0, 1]] := by decide

/-! ### AES-128 (R122, R127, R135, R136) and the instructions that use it -/

theorem test_gfMul : gfMul 0x57 0x83 = 0xc1 ∧ xtime 0x80 = 0x1b := by decide +kernel
theorem test_mixCol : mixCol ⟨0xdb, 0x13, 0x53, 0x45⟩ = ⟨0x8e, 0x4d, 0xa1, 0xbc⟩ := by decide +kernel
theorem test_roundConst : (List.range' 1 10).map roundConst =
    [0x01, 0x02, 0x04, 0x08, 0x10, 0x20, 0x40, 0x80, 0x1b, 0x36] := by decide +kernel
theorem test_aesEnc : aesEnc keyA plainA = cipherA := by decide +kernel
theorem test_aesDec : aesDec keyA cipherA = plainA := by decide +kernel

/-- KD1. -/
theorem test_kdf : answers (exec (.kdf keyA sidA) failed) = [[0, 0x10] ++ skA.toList] := by decide +kernel
/-- KD5. -/
theorem test_kdf_ones : answers (exec (.kdf (Vector.replicate 16 0xff) (Vector.replicate 5 0xff)) State.reset) =
    [[0, 0x10] ++ List.replicate 11 0xff ++ List.replicate 5 0] := by decide +kernel
/-- CE6. -/
theorem test_chainEnc : answers (exec (.chainEnc keyA [0x00, 0x01, 0x20, 0x7f, 0xaa]) State.reset) =
    [[0, 0x14, 0x00, 0x01, 0x20, 0x7f, 0x0a, 0xef, 0x37, 0xcc, 0xf8, 0xfd, 0xe5, 0xce, 0x5f, 0x2a, 0x48, 0x3a, 0xe8,
      0xba, 0xc0, 0x2b]] := by decide +kernel
/-- CE2. -/
theorem test_chainEnc_empty : answers (exec (.chainEnc keyA [0x00, 0x05, 0x20, 0x00]) State.reset) =
    [[0, 4, 0x00, 0x05, 0x20, 0x00]] := by decide +kernel
/-- CD1. -/
theorem test_chainDec : answers (exec (.chainDec keyA 0x1234 cipherA) State.reset) =
    [[0, 0x10, 0x12, 0x25] ++ plainA.toList.drop 2] := by decide +kernel
/-- CO3. -/
theorem test_frame_plain : answers (exec (.frame 0x0102 0x01 true keyA [0xaa, 0xbb, 0xcc]) State.reset) =
    [[0, 7, 1, 2, 1, 0, 0xaa, 0xbb, 0xcc]] := by decide +kernel
/-- CO8. -/
theorem test_frame_chained : answers (exec (.frame 0xabcd 0xff true keyA [0x00]) State.reset) =
    [[0, 0x14, 0xab, 0xcd, 0xff, 0x00, 0x27, 0xfe, 0x72, 0x0e, 0xe7, 0xa7, 0x68, 0x2b, 0x10, 0x54, 0xa0, 0x7a, 0xb8,
      0x5b, 0x65, 0x3d]] := by decide +kernel
/-- SD1. -/
theorem test_send : after (fun t => t.responses = [⟨0, [0, 2, 0, 3]⟩] ∧ t.txOut =
      [0x00, 0x03, 0x20, 0x00, 0x6b, 0x72, 0xe8, 0x92, 0xf7, 0xf1, 0xe5, 0xae, 0x5c, 0xfd, 0x98, 0x2b, 0x77, 0x95, 0x9d,
        0x91].map .tx)
    (exec (.send 0x20 [1, 2, 3]) established) := by decide +kernel
/-- HS3: the wrong type is seen at the 4th byte. -/
theorem test_rxByte_header : after (fun t => t.err = .unexpectedMessageType ∧ t.rxCnt = 4 ∧ t.txOut = [.close])
    (exec (.rxByte 0) { awaitNs 3 with rxBuf := (zeroVec 20).set 1 1 |>.set 2 4 }) := by decide +kernel
/-- HS1: the exchange-2 request at the 11th byte. -/
theorem test_rxByte_exchange1 : after (fun t => t.hsState = .awaitSsAck ∧ t.sk = skA ∧ t.sid = sidA ∧ t.rxCnt = 0 ∧
      t.txOut = [0x00, 0x02, 0x03, 0x00, 0x10, 0x38, 0x5f, 0x72, 0x44, 0x6f, 0x97, 0x03, 0xe0, 0xc9, 0xd4, 0xf6, 0xfb,
        0xa6, 0x4a, 0x82].map .tx)
    (exec (.rxByte 0x24) (awaitNs 10)) := by decide +kernel
/-- HS13. -/
theorem test_rxByte_exchange2 : after (fun t => t.hsState = .established ∧ t.rxCnt = 20 ∧ t.txOut = [])
    (exec (.rxByte 0x82) (awaitSs 19)) := by decide +kernel

end Sys2Proof.Tests
end

