-- ==== Sys2Proof/Tests/Witnesses.lean ====
section
/-! SUPPORT. For every statement with hypotheses, in the order of the statements, a state and operands that meet all of
them together; for a statement with several clauses, one for each clause at a boundary of its range. -/

namespace Sys2Proof.Tests
open Sys2Proof Sys2Proof.Machine

/-- `s` with inputs on offer. -/
def offering (inputs : List Input) (s : State) : State := { s with inputs := inputs }

/-- The operand lengths at their ends. -/
theorem witness_DecodeEncodeRoundTrip : [Instr.chainEnc keyA (zeros 4), .chainEnc keyA (zeros 239),
    .frame 0xffff 0xff true keyA (zeros 235), .frame 0 0 false keyA [], .send 0xff (zeros 254),
    .reserved80 0x7f 0xff [0]].map WellFormed = List.replicate 6 true := by decide +kernel

theorem witness_FramesDecodeToTheirOnlyEncoding :
    decode (.cmd 2 ([0x13, 20, 0xff, 0xff, 0x00, 0x00] ++ zeros 16)) = .ok (.frame 0xffff 0 false (zeroVec 16) []) ∧
      decode (.cmd 0 [0xff, 0x05, 0x00]) = .ok (.reserved80 0x7f 5 [0]) := ⟨rfl, rfl⟩

theorem witness_OpcodeRowsDoNotOverlap :
    opcodeRow (.send 1 []) = some ⟨0xFF00, 0x1400⟩ ∧ opcodeRow (.send 2 [3]) = some ⟨0xFF00, 0x1400⟩ ∧
      (0x1401 : BitVec 16) &&& 0xFF00 = 0x1400 := by decide

/-- Each way to be malformed, at its boundary. -/
theorem witness_MalformedFramesAnswerInvalidInput :
    Malformed [0xff] ∧ Malformed [0x06, 0, 0] ∧ Malformed [0x14, 0] ∧ Malformed ([0x11, 19] ++ zeros 19) ∧
      Malformed ([0x13, 20, 0, 0, 0, 2] ++ zeros 16) ∧
      (offering [.cmd 0 [0xff]] ready).inputs = .cmd 0 [0xff] :: [] :=
  ⟨.inl (by decide), .inr ⟨by decide, .inl (by decide)⟩, .inr ⟨by decide, .inr (.inl (by simp [LegalLen, byteAt]))⟩,
    .inr ⟨by decide, .inr (.inl (by simp [LegalLen, byteAt]))⟩, .inr ⟨by decide, .inr (.inr (by decide))⟩, rfl⟩

theorem witness_ReservedOpcodesAnswerIllegalCommand :
    (∀ opc ∈ [(0x07 : Byte), 0x0F, 0x15, 0x1F, 0x21, 0xFF], ReservedOpcode opc) ∧
      (∀ opc ∈ [(0x06 : Byte), 0x10, 0x14, 0x20], ¬ ReservedOpcode opc) ∧
      (offering [.cmd 4 [0x0F, 9], .reset] ready).inputs = .cmd 4 (0x0F :: 9 :: []) :: [.reset] := by decide

theorem witness_WorkedEncodings :
    ("HS_START", [0x03, 0x00], Instr.hsStart) ∈ ([("HS_START", [0x03, 0x00], .hsStart)] : List (String × List Byte × Instr)) :=
  List.mem_singleton.mpr rfl

/-- An instruction with a line and one whose operands have no encoding, a requester of two digits, a comment, an RX line,
an empty line and one that is not, and a program of the three. -/
theorem witness_LinesAssembleToTheirInstructions :
    lineText (.send 0x20 [1, 2, 3]) = some "SEND type=20, payload=010203" ∧ WellFormed (.send 0x20 [1, 2, 3]) = true ∧
      lineText (.chainEnc (zeroVec 16) [0, 5, 0x20]) =
        some "CHAIN_ENC key=00000000000000000000000000000000, buf=000520" ∧
      WellFormed (.chainEnc (zeroVec 16) [0, 5, 0x20]) = false ∧
      "; in ESTABLISHED" = ";" ++ " in ESTABLISHED" ∧ ([1, 2] : List (Fin 10)) ≠ [] ∧ decimalText [1, 2] = "12" ∧
      decimalValue [1, 2] = 12 ∧ [0x00, 0x01] ≠ ([] : List Byte) ∧
      List.Forall₂ (fun line out => assembleLine line = .ok out)
        ["@12:SEND type=20, payload=010203; in ESTABLISHED", " ; a comment", "RX 00010200"]
        [[.cmd 12 [0x14, 0x04, 0x20, 0x01, 0x02, 0x03]], [], [.rxByte 0, .rxByte 1, .rxByte 2, .rxByte 0]] :=
  ⟨rfl, rfl, rfl, rfl, rfl, by decide, rfl, rfl, by decide, .cons rfl (.cons rfl (.cons rfl .nil))⟩

/-- An input behind two waiting RX bytes: a command, then an event. -/
theorem witness_StepRunsDecodedInstruction :
    (offering [.rxByte 1, .rxByte 2, .cmd 0 [0x20, 0], .reset] established).inputs =
        [.rxByte 1, .rxByte 2] ++ .cmd 0 [0x20, 0] :: [.reset] ∧
      (∀ x ∈ [Input.rxByte 1, .rxByte 2], enabled established x = false) ∧
      enabled established (.cmd 0 [0x20, 0]) = true ∧ decode (.cmd 0 [0x20, 0]) = .ok .seqNext ∧
      enabled established (.tErr 2) = true ∧ decode (.tErr 2) = .ok (.tErr .eof) ∧
      ∀ r bytes, Input.tErr 2 ≠ .cmd r bytes :=
  ⟨rfl, by decide, rfl, rfl, rfl, rfl, fun _ _ h => nomatch h⟩

theorem witness_StepWaitsWithoutEnabledInput :
    ∀ x ∈ (offering [.rxByte 0, .rxByte 1] failed).inputs, enabled (offering [.rxByte 0, .rxByte 1] failed) x = false := by
  decide

/-- A step that takes a byte, and one that takes none. -/
theorem witness_RxBytesAreTakenInOrder :
    (∃ t, step (offering [.rxByte 7, .rxByte 8] (awaitNs 0)) = .next t) ∧
      ∃ t, step (offering [.rxByte 7, .cmd 0 [0, 0]] ready) = .next t := ⟨⟨_, rfl⟩, _, rfl⟩

theorem witness_NopAnswersOk : [0x00].head? = some (0x00 : Byte) ∧ [0x00] ≠ [(0x00 : Byte), 0x00] ∧
    [0x00, 0x01, 0x55] ≠ [(0x00 : Byte), 0x00] := by decide

theorem witness_LoadLtkWritesKeyWhileIdle :
    (ready.hsState = .disconnected ∨ ready.hsState = .failed) ∧
    (failed.hsState = .disconnected ∨ failed.hsState = .failed) ∧
    (established.hsState ≠ .disconnected ∧ established.hsState ≠ .failed) ∧
    [0x01, 0x10].head? = some (0x01 : Byte) ∧ ∀ l : Key, [(0x01 : Byte), 0x10] ≠ 0x01 :: 0x10 :: l.toList :=
  ⟨by decide, by decide, by decide, rfl, fun l h => by simpa using congrArg List.length h⟩

theorem witness_ReadStatusReturnsStatusView :
    [(0x05 : Byte), 0x01].head? = some 0x05 ∧ [(0x05 : Byte), 0x01] ≠ [0x05, 0x00] := by decide

theorem witness_ReadSkOnlyWhenEstablished :
    established.hsState = .established ∧ (awaitSs 19).hsState ≠ .established ∧ (∃ t, exec .close established = .next t) ∧
      [(0x06 : Byte)].head? = some 0x06 ∧ [(0x06 : Byte)] ≠ [0x06, 0x00] := ⟨rfl, by decide, ⟨_, rfl⟩, rfl, by decide⟩

theorem witness_NewSessionStartsEmpty :
    (State.reset.hsState = .disconnected ∧ State.reset.tOpen = false ∨ State.reset.hsState = .failed) ∧
    (failed.hsState = .disconnected ∧ failed.tOpen = false ∨ failed.hsState = .failed) ∧
    ¬ (ready.hsState = .disconnected ∧ ready.tOpen = false ∨ ready.hsState = .failed) ∧
    [(0x02 : Byte)].head? = some 0x02 ∧ [(0x02 : Byte)] ≠ [0x02, 0x00] := by decide

theorem witness_HsStartSendsExchangeOneRequest :
    (ready.hsState = .disconnected ∧ ready.tOpen = true ∧ ready.ltkValid = true) ∧
    ¬ (State.reset.hsState = .disconnected ∧ State.reset.tOpen = true ∧ State.reset.ltkValid = true) ∧
    [(0x03 : Byte)].head? = some 0x03 ∧ [(0x03 : Byte)] ≠ [0x03, 0x00] := by decide

theorem witness_CloseByState :
    ((awaitNs 0).hsState = .awaitNsAck ∨ (awaitNs 0).hsState = .awaitSsAck) ∧
    ((awaitSs 0).hsState = .awaitNsAck ∨ (awaitSs 0).hsState = .awaitSsAck) ∧ established.hsState = .established ∧
    ready.hsState = .disconnected ∧ State.reset.hsState = .disconnected ∧ failed.hsState = .failed ∧
    [(0x04 : Byte)].head? = some 0x04 ∧ [(0x04 : Byte)] ≠ [0x04, 0x00] := by decide

theorem witness_KdfCommandDerivesKey : [(0x10 : Byte), 0x15].head? = some 0x10 ∧
    ∀ (l : Key) (sid : Sid), [(0x10 : Byte), 0x15] ≠ 0x10 :: 0x15 :: (l.toList ++ sid.toList) :=
  ⟨rfl, fun l sid h => by simpa using congrArg List.length h⟩

theorem witness_KdfCornerCases :
    (∀ (j : Nat) (h : j < 5), (zeroVec 16 : Key)[11 + j] = (zeroVec 5 : Sid)[j]) ∧
      ∀ (i : Nat) (h : i < 11), (zeroVec 16 : Key)[i] = 0 := by simp [zeroVec]

theorem witness_ChainEncEncryptsEachBlock :
    4 ≤ (zeros 4).length ∧ (zeros 239).length ≤ 239 ∧ 16 * 14 < padLen false ((zeros 239).length - 4) ∧
    16 * 14 < padLen true ((zeros 239).length - 4) ∧ 16 * 0 < padLen true ((zeros 4).length - 4) ∧
    ([0x11, 3] : List Byte).head? = some 0x11 ∧
    ∀ (k : Key) (b : List Byte), 4 ≤ b.length → b.length ≤ 239 →
      [(0x11 : Byte), 3] ≠ 0x11 :: enc8 (16 + b.length) :: (k.toList ++ b) :=
  ⟨by decide, by decide +kernel, by decide +kernel, by decide +kernel, by decide, rfl, fun k b _ _ h => by
    simpa using congrArg List.length h⟩

theorem witness_ChainDecDecryptsOneBlock : [(0x12 : Byte), 0x22].head? = some 0x12 ∧
    ∀ (k : Key) (h l : Byte) (c : Block), [(0x12 : Byte), 0x22] ≠ 0x12 :: 0x22 :: (k.toList ++ [h, l] ++ c.toList) :=
  ⟨rfl, fun k h l c e => by simpa using congrArg List.length e⟩

theorem witness_ChainDecryptionInvertsEncryption :
    4 ≤ (zeros 4).length ∧ 16 * 0 < padLen true ((zeros 4).length - 4) ∧
      16 * 1 < padLen false ((zeros 21).length - 4) := by decide

/-- Two equal blocks of one packet, and one block under two sequence numbers. -/
theorem witness_EcbWithinPacketDiversifiedAcross :
    4 ≤ (zeros 36).length ∧ 16 * 0 < padLen false ((zeros 36).length - 4) ∧
      16 * 1 < padLen false ((zeros 36).length - 4) ∧
      field 16 (padded false ((zeros 36).drop 4)) (16 * 0) = field 16 (padded false ((zeros 36).drop 4)) (16 * 1) ∧
      field 16 (padded false ((zeros 36).drop 4)) (16 * 0) =
        field 16 (padded false ((0x00 :: 0x01 :: zeros 34).drop 4)) (16 * 0) ∧
      (zeros 36).take 2 ≠ (0x00 :: 0x01 :: zeros 34).take 2 := by decide +kernel

theorem witness_FrameSelectsOneOfThreeForms :
    (zeros 235).length ≤ 235 ∧ ([] : List Byte).length ≤ 235 ∧
    ((0x02 : Byte) = 0x00 ∨ (0x02 : Byte) = 0x01 ∨ (0x02 : Byte) = 0x02) ∧
    ((0x03 : Byte) ≠ 0x00 ∧ (0x03 : Byte) ≠ 0x01 ∧ (0x03 : Byte) ≠ 0x02) ∧
    ([0x13, 19] : List Byte).head? = some 0x13 ∧
    ∀ (h l t : Byte) (kp : Bool) (k : Key) (p : List Byte), p.length ≤ 235 →
      [(0x13 : Byte), 19] ≠ 0x13 :: enc8 (20 + p.length) :: ([h, l, t, if kp then 1 else 0] ++ k.toList ++ p) :=
  ⟨by decide +kernel, by decide, by decide, by decide, rfl, fun h l t kp k p _ e => by
    simpa using congrArg List.length e⟩

theorem witness_SeqNextTakesTheNextNumber :
    [(0x20 : Byte)].head? = some 0x20 ∧ [(0x20 : Byte)] ≠ [0x20, 0x00] := by decide

theorem witness_SequenceLaw : 1 ≤ 1 ∧ 1 < 65535 ∧ 65535 < 1 + 65535 := by decide

theorem witness_SharedCounterHandsOutConsecutiveNumbers :
    (offering [.cmd 3 [0x20, 0x00], .cmd 1 [0x20, 0x00], .reset] ready).inputs =
      [3, 1].map (fun r => .cmd r [0x20, 0x00]) ++ [.reset] := rfl

theorem witness_SendFramesUnderSessionKey :
    established.hsState = .established ∧ (awaitSs 0).hsState ≠ .established ∧ (zeros 254).length ≤ 254 ∧
    ([0x14, 0] : List Byte).head? = some 0x14 ∧
    ∀ (t : Byte) (p : List Byte), p.length ≤ 254 → [(0x14 : Byte), 0] ≠ 0x14 :: enc8 (1 + p.length) :: t :: p :=
  ⟨rfl, by decide, by decide +kernel, rfl, fun t p _ h => by simpa using congrArg List.length h⟩

theorem witness_RxByteWaitsOutsideAwaitingStates :
    established.hsState ≠ .awaitNsAck ∧ established.hsState ≠ .awaitSsAck := by decide

/-- The first byte, the byte after the 11th in AWAIT_SS_ACK, and the last byte before the 20th. -/
theorem witness_RxByteIsStoredAndCounted :
    ∀ s ∈ [awaitNs 0, awaitSs 10, awaitSs 18], (s.hsState = .awaitNsAck ∨ s.hsState = .awaitSsAck) ∧
      s.rxCnt.toNat < 20 ∧ s.rxCnt.toNat ≠ 3 ∧ (s.hsState = .awaitNsAck → s.rxCnt.toNat ≠ 10) ∧
      (s.hsState = .awaitSsAck → s.rxCnt.toNat ≠ 19) := by decide

theorem witness_HeaderCheckFindsFirstFault :
    ((awaitNs 3).hsState = .awaitNsAck ∧ (0x02 : Byte) = 0x02 ∨ (awaitNs 3).hsState = .awaitSsAck ∧ (0x02 : Byte) = 0x04) ∧
    (awaitNs 3).rxCnt = 3 ∧
    ((awaitSs 3).hsState = .awaitNsAck ∧ (0x04 : Byte) = 0x02 ∨ (awaitSs 3).hsState = .awaitSsAck ∧ (0x04 : Byte) = 0x04) ∧
    (awaitSs 3).rxCnt = 3 := by decide

theorem witness_ExchangeOneDerivesKeyAndSendsRequest :
    (awaitNs 10).hsState = .awaitNsAck ∧ (awaitNs 10).rxCnt = 10 ∧
      sidA = #v[(awaitNs 10).rxBuf[6], (awaitNs 10).rxBuf[7], (awaitNs 10).rxBuf[8], (awaitNs 10).rxBuf[9], 0x24] ∧
      skA = kdf (awaitNs 10).ltk sidA ∧ 2 = nextSeq (awaitNs 10).seq := by decide +kernel

/-- The block of program P1, whose first five bytes are SID, and one whose are not. -/
theorem witness_ExchangeTwoChecksIdentifier :
    (awaitSs 19).hsState = .awaitSsAck ∧ (awaitSs 19).rxCnt = 19 ∧
      #v[0x20, 0x23, 0x22, 0x23, 0x24, 0, 0, 0, 0, 0, 0, 0, 0, 0, 0, 0] =
        aesDec (awaitSs 19).sk
          (Vector.ofFn fun i => if h : i.val < 15 then (awaitSs 19).rxBuf[4 + i.val] else 0x82) ∧
      (let p := aesDec (awaitSs 19).sk
          (Vector.ofFn fun i => if h : i.val < 15 then (awaitSs 19).rxBuf[4 + i.val] else 0x83)
       p[2] ≠ (awaitSs 19).sid[2]) := by decide +kernel

theorem witness_TransportErrorFailsSession :
    (∀ s ∈ [awaitNs 0, awaitSs 0, established, ready], s.hsState = .awaitNsAck ∨ s.hsState = .awaitSsAck ∨
      s.hsState = .established ∨ s.hsState = .disconnected ∧ s.tOpen = true) ∧
    ∀ s ∈ [failed, State.reset], s.hsState = .failed ∨ s.hsState = .disconnected ∧ s.tOpen = false := by decide

theorem witness_AnswersAfterReset : exec .reset established = .next State.reset := rfl

/-- FAILED under a command other than NEW_SESSION, ESTABLISHED under one other than CLOSE. -/
theorem witness_TerminalStates :
    failed.hsState = .failed ∧ (∃ t, exec .close failed = .next t) ∧ established.hsState = .established ∧
      (∃ t, exec .readSk established = .next t) ∧ (∀ k, Instr.readSk ≠ .tErr k) :=
  ⟨rfl, ⟨_, rfl⟩, rfl, ⟨_, rfl⟩, fun _ h => nomatch h⟩

/-- A row of a command, of a failed header check, and of a transport failure. -/
theorem witness_HandshakeTransitions :
    (∃ t, exec .hsStart ready = .next t ∧ t.hsState ≠ ready.hsState) ∧
    (∃ t, exec (.rxByte 0) { awaitNs 3 with lastSeq := 2 } = .next t ∧ t.hsState ≠ (awaitNs 3).hsState) ∧
    ∃ t, exec (.tErr .eof) established = .next t ∧ t.hsState ≠ established.hsState :=
  ⟨⟨_, rfl, by decide⟩, ⟨_, rfl, by decide⟩, _, rfl, by decide⟩

/-- Each condition of the rows of the header check and of the identifier, met and not met. -/
theorem witness_HandshakeTransitions_conditions :
    HeaderFails { awaitNs 3 with lastSeq := 2 } .protocolMismatch ∧ HeaderPasses (awaitNs 3) ∧ HeaderPasses (awaitSs 3) ∧
      SidMatches (awaitSs 19) 0x82 ∧ ¬ SidMatches (awaitSs 19) 0x83 := by
  have right : ∀ i : Fin 5, (chainDec (awaitSs 19).sk (be16 (awaitSs 19).rxBuf[0] (awaitSs 19).rxBuf[1])
      (Vector.ofFn fun j : Fin 16 => if hj : j.val < 15 then (awaitSs 19).rxBuf[4 + j.val] else 0x82))[i.val]'(by omega) =
        (awaitSs 19).sid[i.val]'(by omega) := by decide +kernel
  exact ⟨.inl ⟨by decide, rfl⟩, ⟨by decide, by decide⟩, ⟨by decide, by decide⟩, fun i h => right ⟨i, h⟩,
    fun h => absurd (h 2 (by omega)) (by decide +kernel)⟩

theorem inv_awaitSs : Inv (awaitSs 0) where
  live _ := by decide
  keyed _ := by decide +kernel
  valid_iff := by decide
  err_iff := by decide
  failed_closed := by decide
  count_ns := by decide
  count_ss _ := by decide
  count_est := by decide
  echo _ h := by revert h; decide
  count := by decide

theorem witness_InvariantsAreKept : Inv (awaitSs 0) ∧ ∃ t, step (awaitSs 0) = .next t := ⟨inv_awaitSs, _, rfl⟩

theorem witness_SequenceCounterWriters : ∃ t, exec .seqNext { ready with seq := 0xffff } = .next t := ⟨_, rfl⟩

theorem witness_SequenceCounterWriters_zero :
    ∃ t, exec .newSession { failed with seq := 0xffff } = .next t ∧ t.seq = 0 := ⟨_, rfl, rfl⟩

theorem witness_RegisterWriters : (∃ t, exec .close established = .next t) ∧ Instr.close ≠ .reset :=
  ⟨⟨_, rfl⟩, by decide⟩

/-- A command and an event, each the first enabled input. -/
theorem witness_OneResponsePerCommand :
    (offering [.rxByte 1, .cmd 7 [0xff]] ready).inputs = [.rxByte 1] ++ .cmd 7 [0xff] :: [] ∧
      (∀ x ∈ [Input.rxByte 1], enabled ready x = false) ∧ enabled ready (.cmd 7 [0xff]) = true ∧
      (∃ t, step (offering [.rxByte 1, .cmd 7 [0xff]] ready) = .next t) ∧
      (∃ t, step (offering [.rxByte 1] (awaitNs 0)) = .next t) ∧ ∀ r bytes, Input.rxByte 1 ≠ .cmd r bytes :=
  ⟨rfl, by decide, rfl, ⟨_, rfl⟩, ⟨_, rfl⟩, fun _ _ h => nomatch h⟩

theorem witness_RefusedCommandsChangeNothing :
    ∃ t, step (offering [.cmd 0 [0x06, 0x00], .rxByte 1] ready) = .next t ∧
      t.responses = ready.responses ++ [⟨0, 0x02 :: [0x00]⟩] ∧ (0x02 : Byte) ≠ 0x00 := ⟨_, rfl, rfl, by decide⟩

theorem witness_TransportOutputIsAppendOnly : Inv (awaitSs 0) ∧ ∃ t, exec .close (awaitSs 0) = .next t :=
  ⟨inv_awaitSs, _, rfl⟩

theorem witness_LongTermKeyIsNeverShown :
    (∃ t, exec .hsStart ready = .next t) ∧
      (∀ b, Instr.hsStart = .rxByte b → ¬ (ready.hsState = .awaitNsAck ∧ ready.rxCnt = 10)) ∧
      (∃ t, exec (.rxByte 0) (awaitNs 9) = .next t) ∧
      ∀ b, Instr.rxByte 0 = .rxByte b → ¬ ((awaitNs 9).hsState = .awaitNsAck ∧ (awaitNs 9).rxCnt = 10) :=
  ⟨⟨_, rfl⟩, fun _ h => (nomatch h), ⟨_, rfl⟩, fun _ _ => by decide⟩

theorem witness_SessionKeyIsHiddenUntilEstablished :
    (awaitSs 18).hsState ≠ .established ∧ (∃ t, exec (.rxByte 0) (awaitSs 18) = .next t) ∧
      ∀ b, Instr.rxByte 0 = .rxByte b → ¬ ((awaitSs 18).hsState = .awaitSsAck ∧ (awaitSs 18).rxCnt = 19) :=
  ⟨by decide, ⟨_, rfl⟩, fun _ _ => by decide⟩

theorem witness_MachineNeverStops : InputsLegal (offering [.cmd 0 [], .rxByte 0xff, .tErr 2, .reset] ready) := by
  intro i hi
  simp only [offering, List.mem_cons, List.not_mem_nil, or_false] at hi
  rcases hi with rfl | rfl | rfl | rfl
  · exact Nat.zero_lt_one
  · trivial
  · exact (by decide : (2 : BitVec 2) ≠ 3)
  · trivial

theorem witness_ParametersNeverChange : ∃ t, step (offering [.reset] established) = .next t := ⟨_, rfl⟩

theorem witness_OutstandingNumberIsNeverZero :
    ((awaitNs 0).hsState = .awaitNsAck ∨ (awaitNs 0).hsState = .awaitSsAck → (awaitNs 0).lastSeq ≠ 0) ∧
      ∃ t, step (offering [.rxByte 0] (awaitNs 0)) = .next t ∧ (t.hsState = .awaitNsAck ∨ t.hsState = .awaitSsAck) :=
  ⟨by decide, _, rfl, .inl rfl⟩

/-- The exchange-2 confirmation block of the vectors (CH1). -/
def confirmA : Block :=
  #v[0x10, 0x38, 0x5f, 0x72, 0x44, 0x6f, 0x97, 0x03, 0xe0, 0xc9, 0xd4, 0xf6, 0xfb, 0xa6, 0x4a, 0x82]

/-- Program P1's handshake, with one command behind it. -/
theorem witness_SuccessfulHandshake :
    let s := offering (.cmd 0 [0x03, 0x00] ::
      ((enc16 1 ++ [0x02, 0, 0xa5, 0x5a] ++ sidA.toList).map .rxByte ++
        ((enc16 2 ++ [0x04, 0] ++ confirmA.toList).map .rxByte ++ [.cmd 0 [0x06, 0x00]]))) ready
    s.hsState = .disconnected ∧ s.tOpen = true ∧ s.ltkValid = true ∧ 1 = nextSeq s.seq ∧ 2 = nextSeq 1 ∧
      skA = kdf s.ltk sidA ∧ ∀ i : Fin 5, (chainDec skA 2 confirmA)[i.val]'(by omega) = sidA[i.val]'(by omega) := by
  decide +kernel

/-- The block that the controller's own encryption gives. -/
theorem witness_SuccessfulHandshake_block :
    confirmA = field 16 (chainEnc false skA (enc16 2 ++ [0x04, 0x00] ++ sidA.toList)) 4 := by decide +kernel

end Sys2Proof.Tests
end

section
/-! The worked encodings of spec/30_encoding.md R103: each line is read down to the words of one instruction, whose frame
is the given one and decodes to it. -/

namespace Sys2Proof.Proofs.WorkedEncodings
open Sys2Proof Sys2Proof.Machine

/-- R100: a line whose words, behind its requester, are those of one well-formed instruction assembles to that
instruction's encoding. -/
theorem assembleLine_eq_encode {line : String} {r : Nat} {cs : List Char} {i : Instr}
    (hrequester : splitRequester (line.toList.takeWhile (· ≠ ';')) = some (r, cs))
    (hwords : assembleWords (splitWords [] cs) = some [i]) (hwf : WellFormed i = true) :
    assembleLine line = .ok [encode r i] := by
  simp only [assembleLine, hrequester, hwords]
  simp [hwf]

/-- A line without a requester or a comment, whose words are those of an instruction with the frame `bytes`, assembles to
that frame; where the frame decodes to the instruction, it does so whoever sends it. -/
theorem assembles_and_decodes {line : String} {bytes : List Byte} {i : Instr}
    (hplain : splitRequester (line.toList.takeWhile (· ≠ ';')) = some (0, line.toList))
    (hwords : assembleWords (splitWords [] line.toList) = some [i]) (hwf : WellFormed i = true)
    (hencode : encode 0 i = .cmd 0 bytes) (hdecode : decodeFrame bytes = .ok i) :
    assembleLine line = .ok [.cmd 0 bytes] ∧ ∀ r, decode (.cmd r bytes) = .ok i :=
  ⟨hencode ▸ assembleLine_eq_encode hplain hwords hwf, fun _ => hdecode⟩

/-- Settles O7: the five lines of R103, each by its words, its instruction's encoding, and the decoder on its frame. -/
theorem workedEncodings : Obligations.WorkedEncodings := by
  intro line bytes i hline
  simp only [List.mem_cons, List.not_mem_nil, or_false, Prod.mk.injEq] at hline
  obtain ⟨rfl, rfl, rfl⟩ | ⟨rfl, rfl, rfl⟩ | ⟨rfl, rfl, rfl⟩ | ⟨rfl, rfl, rfl⟩ | ⟨rfl, rfl, rfl⟩ := hline
  all_goals exact assembles_and_decodes rfl rfl rfl rfl rfl

end Sys2Proof.Proofs.WorkedEncodings
end

section
/-! The algebra of GF(2^8) (spec/40_aes128.md R122): the product is additive in both factors and associative, which is
what a product of constant matrices over the field needs. -/

namespace Sys2Proof.Proofs.Field
open Sys2Proof Sys2Proof.Machine

theorem ite_xor_cond (p q : Bool) (c : Byte) :
    (if p ^^ q then c else 0) = (if p then c else 0) ^^^ (if q then c else 0) := by
  cases p <;> cases q <;> simp

theorem ite_xor_value (p : Bool) (c d : Byte) :
    (if p then c ^^^ d else 0) = (if p then c else 0) ^^^ (if p then d else 0) := by
  cases p <;> simp

theorem xtime_xor (a b : Byte) : xtime (a ^^^ b) = xtime a ^^^ xtime b := by
  simp only [xtime, BitVec.shiftLeft_xor_distrib, BitVec.getLsbD_xor, ite_xor_cond]
  ac_rfl

theorem gfMulBits_xor_left (n : Nat) (a a' b : Byte) :
    gfMulBits n (a ^^^ a') b = gfMulBits n a b ^^^ gfMulBits n a' b := by
  induction n generalizing a a' b with
  | zero => simp [gfMulBits]
  | succ n ih =>
    simp only [gfMulBits, xtime_xor, ih, ite_xor_value]
    ac_rfl

theorem gfMulBits_xor_right (n : Nat) (a b b' : Byte) :
    gfMulBits n a (b ^^^ b') = gfMulBits n a b ^^^ gfMulBits n a b' := by
  induction n generalizing a b b' with
  | zero => simp [gfMulBits]
  | succ n ih =>
    simp only [gfMulBits, BitVec.ushiftRight_xor_distrib, ih, BitVec.getLsbD_xor, ite_xor_cond]
    ac_rfl

theorem gfMulBits_xtime_left (n : Nat) (a b : Byte) : gfMulBits n (xtime a) b = xtime (gfMulBits n a b) := by
  induction n generalizing a b with
  | zero => simp [gfMulBits, xtime]
  | succ n ih =>
    simp only [gfMulBits, ih, xtime_xor]
    split <;> rfl

theorem gfMul_xor_left (a a' b : Byte) : gfMul (a ^^^ a') b = gfMul a b ^^^ gfMul a' b := gfMulBits_xor_left 8 a a' b

theorem gfMul_xor_right (a b b' : Byte) : gfMul a (b ^^^ b') = gfMul a b ^^^ gfMul a b' := gfMulBits_xor_right 8 a b b'

@[simp] theorem gfMul_zero_right (a : Byte) : gfMul a 0#8 = 0#8 := by simp [gfMul, gfMulBits]

@[simp] theorem gfMul_zero_left (b : Byte) : gfMul 0#8 b = 0#8 := by
  simpa using gfMul_xor_left 0 0 b

@[simp] theorem gfMul_one_left : ∀ b : Byte, gfMul 1#8 b = b := by decide +kernel

/-- The reduction `x^8 = x^4 + x^3 + x + 1` of R122, as the product with `0x1B`. -/
theorem gfMul_reduction :
    ∀ a : Byte, gfMul a 0x1B = xtime (xtime (xtime (xtime (xtime (xtime (xtime (xtime a))))))) := by decide +kernel

/-- Multiplication by x passes through a product: the bits of `b` move up by one, and bit 7 comes back as `0x1B`. -/
theorem gfMul_xtime_right (a b : Byte) : gfMul a (xtime b) = xtime (gfMul a b) := by
  have hcarry : gfMul a (if b.getLsbD 7 then 0x1B else 0) =
      if b.getLsbD 7 then xtime (xtime (xtime (xtime (xtime (xtime (xtime (xtime a))))))) else 0 := by
    split
    · exact gfMul_reduction a
    · exact gfMul_zero_right a
  calc gfMul a (xtime b)
      = gfMul a (b <<< 1) ^^^ gfMul a (if b.getLsbD 7 then 0x1B else 0) := gfMul_xor_right ..
    _ = gfMul (xtime a) b := by
        rw [hcarry]
        simp [gfMul, gfMulBits, BitVec.xor_assoc]
    _ = xtime (gfMul a b) := gfMulBits_xtime_left 8 a b

theorem gfMul_gfMulBits (n : Nat) (a b c : Byte) : gfMul a (gfMulBits n b c) = gfMulBits n (gfMul a b) c := by
  induction n generalizing b c with
  | zero => exact gfMul_zero_right a
  | succ n ih =>
    simp only [gfMulBits, gfMul_xor_right, ih, gfMul_xtime_right]
    split <;> simp

theorem gfMul_assoc (a b c : Byte) : gfMul (gfMul a b) c = gfMul a (gfMul b c) := (gfMul_gfMulBits 8 a b c).symm

end Sys2Proof.Proofs.Field
end

section
/-! The round transformations of AES-128 and their inverses (spec/40_aes128.md R125 to R131). -/

namespace Sys2Proof.Proofs.RoundTransformations
open Sys2Proof Sys2Proof.Machine Sys2Proof.Proofs.Field

theorem invSbox_sbox : ∀ a : Byte, invSbox (sbox a) = a := by decide +kernel

theorem sbox_invSbox : ∀ a : Byte, sbox (invSbox a) = a := by decide +kernel

theorem invSubBytes_subBytes (s : AesState) : invSubBytes (subBytes s) = s := by
  simp [subBytes, invSubBytes, Col.map, invSbox_sbox]

theorem subBytes_invSubBytes (s : AesState) : subBytes (invSubBytes s) = s := by
  simp [subBytes, invSubBytes, Col.map, sbox_invSbox]

theorem invShiftRows_shiftRows (s : AesState) : invShiftRows (shiftRows s) = s := rfl

theorem shiftRows_invShiftRows (s : AesState) : shiftRows (invShiftRows s) = s := rfl

theorem addRoundKey_addRoundKey (s k : AesState) : addRoundKey (addRoundKey s k) k = s := by
  simp [addRoundKey, Col.xor]

/-- A 4x4 matrix over the field, by its rows. -/
structure Mat where
  row0 : Col
  row1 : Col
  row2 : Col
  row3 : Col
deriving DecidableEq

/-- `mixRow` with its four coefficients as the row `m` of a matrix. -/
def rowMul (m a : Col) : Byte := mixRow m.r0 m.r1 m.r2 m.r3 a

/-- The product of a matrix and a column. -/
def Mat.mulCol (m : Mat) (a : Col) : Col := ⟨rowMul m.row0 a, rowMul m.row1 a, rowMul m.row2 a, rowMul m.row3 a⟩

/-- The product of a row and a matrix. -/
def rowMulMat (m : Col) (n : Mat) : Col :=
  (n.row0.map (gfMul m.r0)).xor ((n.row1.map (gfMul m.r1)).xor
    ((n.row2.map (gfMul m.r2)).xor (n.row3.map (gfMul m.r3))))

/-- The product of two matrices. -/
def Mat.mul (m n : Mat) : Mat := ⟨rowMulMat m.row0 n, rowMulMat m.row1 n, rowMulMat m.row2 n, rowMulMat m.row3 n⟩

/-- The identity matrix. -/
def Mat.one : Mat := ⟨⟨1, 0, 0, 0⟩, ⟨0, 1, 0, 0⟩, ⟨0, 0, 1, 0⟩, ⟨0, 0, 0, 1⟩⟩

/-- The matrix of MixColumns (R127). -/
def mixMat : Mat := ⟨⟨2, 3, 1, 1⟩, ⟨1, 2, 3, 1⟩, ⟨1, 1, 2, 3⟩, ⟨3, 1, 1, 2⟩⟩

/-- The matrix of InvMixColumns (R127). -/
def invMixMat : Mat :=
  ⟨⟨0x0E, 0x0B, 0x0D, 0x09⟩, ⟨0x09, 0x0E, 0x0B, 0x0D⟩, ⟨0x0D, 0x09, 0x0E, 0x0B⟩, ⟨0x0B, 0x0D, 0x09, 0x0E⟩⟩

theorem mixCol_eq_mulCol (a : Col) : mixCol a = mixMat.mulCol a := rfl

theorem invMixCol_eq_mulCol (a : Col) : invMixCol a = invMixMat.mulCol a := rfl

theorem rowMul_mulCol (m : Col) (n : Mat) (a : Col) : rowMul m (n.mulCol a) = rowMul (rowMulMat m n) a := by
  simp only [rowMul, mixRow, Mat.mulCol, rowMulMat, Col.map, Col.xor, gfMul_xor_left, gfMul_xor_right, gfMul_assoc]
  ac_rfl

theorem mulCol_mulCol (m n : Mat) (a : Col) : m.mulCol (n.mulCol a) = (m.mul n).mulCol a := by
  rw [Mat.mulCol, rowMul_mulCol, rowMul_mulCol, rowMul_mulCol, rowMul_mulCol]
  rfl

theorem one_mulCol (a : Col) : Mat.one.mulCol a = a := by
  simp [Mat.one, Mat.mulCol, rowMul, mixRow]

theorem invMixMat_mul_mixMat : invMixMat.mul mixMat = Mat.one := by decide +kernel

theorem mixMat_mul_invMixMat : mixMat.mul invMixMat = Mat.one := by decide +kernel

theorem invMixCol_mixCol (a : Col) : invMixCol (mixCol a) = a := by
  rw [mixCol_eq_mulCol, invMixCol_eq_mulCol, mulCol_mulCol, invMixMat_mul_mixMat, one_mulCol]

theorem mixCol_invMixCol (a : Col) : mixCol (invMixCol a) = a := by
  rw [mixCol_eq_mulCol, invMixCol_eq_mulCol, mulCol_mulCol, mixMat_mul_invMixMat, one_mulCol]

theorem invMixColumns_mixColumns (s : AesState) : invMixColumns (mixColumns s) = s := by
  simp [mixColumns, invMixColumns, invMixCol_mixCol]

theorem mixColumns_invMixColumns (s : AesState) : mixColumns (invMixColumns s) = s := by
  simp [mixColumns, invMixColumns, mixCol_invMixCol]

/-- Settles O22: the S-box tables invert each other, the shifts only move bytes, and R127's two matrices are inverses
over the field. -/
theorem inverseRoundTransformations : Obligations.InverseRoundTransformations := fun s k =>
  ⟨invSubBytes_subBytes s, subBytes_invSubBytes s, invShiftRows_shiftRows s, shiftRows_invShiftRows s,
    invMixColumns_mixColumns s, mixColumns_invMixColumns s, addRoundKey_addRoundKey s k⟩

end Sys2Proof.Proofs.RoundTransformations
end

section
/-! The cipher and the inverse cipher (spec/40_aes128.md R132 to R135): every transformation of the one is solved for its
argument by a transformation of the other, so an encryption is too. -/

namespace Sys2Proof.Proofs.InverseCipher
open Sys2Proof Sys2Proof.Machine Sys2Proof.Proofs.RoundTransformations

theorem subBytes_eq_iff {s t : AesState} : subBytes s = t ↔ s = invSubBytes t :=
  ⟨fun h => h ▸ (invSubBytes_subBytes s).symm, fun h => h ▸ subBytes_invSubBytes t⟩

theorem shiftRows_eq_iff {s t : AesState} : shiftRows s = t ↔ s = invShiftRows t :=
  ⟨fun h => h ▸ (invShiftRows_shiftRows s).symm, fun h => h ▸ shiftRows_invShiftRows t⟩

theorem mixColumns_eq_iff {s t : AesState} : mixColumns s = t ↔ s = invMixColumns t :=
  ⟨fun h => h ▸ (invMixColumns_mixColumns s).symm, fun h => h ▸ mixColumns_invMixColumns t⟩

theorem addRoundKey_eq_iff {s t k : AesState} : addRoundKey s k = t ↔ s = addRoundKey t k :=
  ⟨fun h => h ▸ (addRoundKey_addRoundKey s k).symm, fun h => h ▸ addRoundKey_addRoundKey t k⟩

theorem aesLoad_aesStore (s : AesState) : aesLoad (aesStore s) = s := rfl

theorem aesStore_aesLoad (b : Block) : aesStore (aesLoad b) = b := by
  ext i hi
  interval_cases i <;> rfl

theorem aesStore_eq_iff {s : AesState} {b : Block} : aesStore s = b ↔ s = aesLoad b :=
  ⟨fun h => h ▸ (aesLoad_aesStore s).symm, fun h => h ▸ aesStore_aesLoad b⟩

theorem aesLoad_eq_iff {s : AesState} {b : Block} : aesLoad b = s ↔ b = aesStore s :=
  ⟨fun h => h ▸ (aesStore_aesLoad b).symm, fun h => h ▸ aesLoad_aesStore s⟩

/-- The inverse rounds `n` to 1 lead from the state before AddRoundKey `n + 1` back to the one before AddRoundKey 1: the
last ShiftRows and SubBytes of the one cipher stand where the first InvShiftRows and InvSubBytes of the other do. -/
theorem shiftRows_subBytes_encRounds_eq_iff (k : Key) (s : AesState) (n : Nat) (t : AesState) :
    shiftRows (subBytes (encRounds k s n)) = t ↔
      shiftRows (subBytes (addRoundKey s (roundKey k 0))) = decRounds k t n := by
  induction n generalizing t with
  | zero => rfl
  | succ n ih =>
    calc shiftRows (subBytes (encRounds k s (n + 1))) = t
        ↔ addRoundKey (mixColumns (shiftRows (subBytes (encRounds k s n)))) (roundKey k (n + 1)) =
            invSubBytes (invShiftRows t) := by rw [shiftRows_eq_iff, subBytes_eq_iff, encRounds]
      _ ↔ shiftRows (subBytes (encRounds k s n)) =
            invMixColumns (addRoundKey (invSubBytes (invShiftRows t)) (roundKey k (n + 1))) := by
          rw [addRoundKey_eq_iff, mixColumns_eq_iff]
      _ ↔ shiftRows (subBytes (addRoundKey s (roundKey k 0))) = decRounds k t (n + 1) := ih _

/-- A block encrypts to `c` under `k` exactly when it is the decryption of `c`. -/
theorem aesEnc_eq_iff (k : Key) (b c : Block) : aesEnc k b = c ↔ b = aesDec k c := by
  rw [aesEnc, aesStore_eq_iff, addRoundKey_eq_iff, shiftRows_subBytes_encRounds_eq_iff, shiftRows_eq_iff,
    subBytes_eq_iff, addRoundKey_eq_iff, aesLoad_eq_iff, aesDec]

theorem aesDec_aesEnc (k : Key) (b : Block) : aesDec k (aesEnc k b) = b := ((aesEnc_eq_iff k b _).mp rfl).symm

theorem aesEnc_aesDec (k : Key) (c : Block) : aesEnc k (aesDec k c) = c := (aesEnc_eq_iff k _ c).mpr rfl

/-- Settles O21: encryption and decryption are inverse functions, hence bijections. -/
theorem aesDecryptionInvertsEncryption : Obligations.AesDecryptionInvertsEncryption := fun k =>
  ⟨aesDec_aesEnc k, aesEnc_aesDec k,
    Function.bijective_iff_has_inverse.mpr ⟨aesDec k, aesDec_aesEnc k, aesEnc_aesDec k⟩⟩

/-- Settles O23: the cipher evaluated on FIPS-197's examples C.1 and B. -/
theorem aesKnownAnswers : Obligations.AesKnownAnswers := by
  constructor
  · decide +kernel
  · decide +kernel

end Sys2Proof.Proofs.InverseCipher
end

section
/-! How a frame is refused (spec/46_control.md R255), and the commands whose operands have one length
(spec/30_encoding.md R93, R96): such a command's frame decodes or is refused by its length alone. -/

namespace Sys2Proof.Proofs.CommandFrames
open Sys2Proof Sys2Proof.Machine

/-- A command at the head of the offers is the input served, for its requester. -/
theorem nextInput_cmd {s : State} {r : Nat} {bytes : List Byte} {rest : List Input}
    (h : s.inputs = .cmd r bytes :: rest) :
    nextInput s = some (.cmd r bytes, { s with inputs := rest, requester := r }) := by
  simp [nextInput, h, takeFirst, enabled, servedRequester]

/-- Every rejection that a frame can have answers INVALID_INPUT (R255). -/
theorem rejectInput_of_ne {e : DecodeError} (he : e ≠ .errPortKind3) (s : State) :
    rejectInput e s = .next (cmdError .invalidInput s) := by
  cases e with
  | errPortKind3 => exact absurd rfl he
  | tooShort | lengthMismatch | illegalLen | keyPresent => rfl

theorem refusesFrame_of_decodeFrame {bytes : List Byte} {e : DecodeError} (hd : decodeFrame bytes = .error e)
    (he : e ≠ .errPortKind3) : RefusesFrame bytes := by
  intro s r rest h
  simp only [step, nextInput_cmd h, decode, hd]
  exact rejectInput_of_ne he _

/-- R93: the opcode `opc` takes exactly `n` operand bytes, which are those of the instruction `instr`. -/
def FixedLength (opc : Byte) (n : Nat) (instr : List Byte → Instr) : Prop :=
  ∀ len ops, decodeFrame (opc :: len :: ops) =
    if ops.length = len.toNat then ifLegal (ops.length == n) (instr ops) else .error .lengthMismatch

theorem FixedLength.decodeFrame_of_length {opc : Byte} {n : Nat} {instr : List Byte → Instr}
    (hfixed : FixedLength opc n instr) {len : Byte} {ops : List Byte} (hlen : len.toNat = n) (hops : ops.length = n) :
    decodeFrame (opc :: len :: ops) = .ok (instr ops) := by
  simp [hfixed len ops, hlen, hops, ifLegal]

/-- A frame of a fixed-length opcode that has not both the LEN byte and the operand count of its row is refused: it is
too short, its byte count is not its LEN, or its LEN is not legal (R96). -/
theorem FixedLength.refusesFrame {opc : Byte} {n : Nat} {instr : List Byte → Instr}
    (hfixed : FixedLength opc n instr) {bytes : List Byte} (hopc : bytes.head? = some opc)
    (hbytes : ∀ len ops, len.toNat = n → ops.length = n → bytes ≠ opc :: len :: ops) : RefusesFrame bytes := by
  match bytes, hopc with
  | [_], _ => exact refusesFrame_of_decodeFrame (e := .tooShort) rfl (by decide)
  | _ :: len :: ops, rfl =>
    by_cases hcount : ops.length = len.toNat
    · have hn : ops.length ≠ n := fun h => hbytes len ops (hcount ▸ h) h rfl
      exact refusesFrame_of_decodeFrame (e := .illegalLen) (by simp [hfixed len ops, hcount ▸ hn, hcount, ifLegal])
        (by decide)
    · exact refusesFrame_of_decodeFrame (e := .lengthMismatch) (by simp [hfixed len ops, hcount]) (by decide)

/-- The bytes of a field that lies inside a string. -/
theorem toList_field {n off : Nat} {b : List Byte} (h : off + n ≤ b.length) :
    (field n b off).toList = (b.drop off).take n := by
  apply List.ext_getElem
  · simp; omega
  · intro i hi _
    have hb : off + i < b.length := by simp at hi; omega
    simp [field, hb]

end Sys2Proof.Proofs.CommandFrames
end

section
/-! The command KDF (spec/41_key_derivation.md R140, R141): the bytes of the derived key, the answer that carries it, and
the frames that ask for it. -/

namespace Sys2Proof.Proofs.KeyDerivation
open Sys2Proof Sys2Proof.Machine Sys2Proof.Proofs.CommandFrames

/-- R140: the first 11 bytes are the long-term key's. -/
theorem kdf_getElem_head (l : Key) (sid : Sid) {i : Nat} (hi : i < 11) : (kdf l sid)[i] = l[i] := by
  simp [kdf, hi]

/-- R140: the last 5 bytes are XORed with the session identifier. -/
theorem kdf_getElem_tail (l : Key) (sid : Sid) {j : Nat} (hj : j < 5) :
    (kdf l sid)[11 + j] = l[11 + j] ^^^ sid[j] := by
  simp [kdf]

/-- R141: the only effect of the command is its answer, in every state. -/
theorem exec_kdf (l : Key) (sid : Sid) (s : State) :
    exec (.kdf l sid) s = .next (answered (0x00 :: 0x10 :: (kdf l sid).toList) s) := by
  have hframe : responseFrame .ok (kdf l sid).toList = 0x00 :: 0x10 :: (kdf l sid).toList := by
    simp [responseFrame, statusCode, enc8]
  rw [exec, execKdf, respond, hframe, answered]

/-- R93: KDF takes 21 operand bytes, a key and a session identifier. -/
theorem kdf_fixedLength : FixedLength 0x10 21 fun ops => .kdf (field 16 ops 0) (field 5 ops 16) := fun _ _ => rfl

theorem decodeFrame_kdf (l : Key) (sid : Sid) :
    decodeFrame (0x10 :: 0x15 :: (l.toList ++ sid.toList)) = .ok (.kdf l sid) := by
  have hkey : field 16 (l.toList ++ sid.toList) 0 = l := by rw [field_append_left (by simp), field_toList]
  have hsid : field 5 (l.toList ++ sid.toList) 16 = sid := by
    simpa using field_append_right 5 l.toList sid.toList 0
  rw [kdf_fixedLength.decodeFrame_of_length rfl (by simp), hkey, hsid]

/-- The operands of KDF are its two fields, one after the other. -/
theorem toList_key_append_toList_sid {ops : List Byte} (h : ops.length = 21) :
    (field 16 ops 0).toList ++ (field 5 ops 16).toList = ops := by
  calc (field 16 ops 0).toList ++ (field 5 ops 16).toList
      = ops.take 16 ++ (ops.drop 16).take 5 := by
        rw [toList_field (by omega), toList_field (by omega), List.drop_zero]
    _ = ops.take 16 ++ ops.drop 16 := by rw [List.take_of_length_le (l := ops.drop 16) (by simp [h])]
    _ = ops := List.take_append_drop 16 ops

/-- Settles O19: the key answered is `kdf l sid`, and a frame of the opcode that is no key and session identifier has not
KDF's length. -/
theorem kdfCommandDerivesKey : Obligations.KdfCommandDerivesKey := by
  refine ⟨fun l sid s => ⟨kdf l sid, exec_kdf l sid s, fun _ => kdf_getElem_head l sid,
    fun _ => kdf_getElem_tail l sid⟩, fun _ => decodeFrame_kdf, fun bytes hopc hbytes => ?_⟩
  refine kdf_fixedLength.refusesFrame hopc fun len ops hlen hops hframe => ?_
  obtain rfl : len = 0x15 := BitVec.eq_of_toNat_eq hlen
  exact hbytes _ _ (toList_key_append_toList_sid hops ▸ hframe)

end Sys2Proof.Proofs.KeyDerivation
end

section
/-! Chaining on blocks (spec/42_block_cipher_chaining.md R150 to R159): block `i` of a chained packet is the encryption
of its whitened plaintext block, so decryption gives that block back and the header tells equal blocks apart. -/

namespace Sys2Proof.Proofs.Chaining
open Sys2Proof Sys2Proof.Machine Sys2Proof.Proofs.InverseCipher

theorem whiten_getElem_zero (h l : Byte) (x : Block) : (whiten h l x)[0] = x[0] ^^^ h := by
  simp [whiten]

theorem whiten_getElem_one (h l : Byte) (x : Block) : (whiten h l x)[1] = x[1] ^^^ l := by
  simp [whiten]

theorem whiten_getElem_of_two_le (h l : Byte) (x : Block) {i : Nat} (hi : i < 16) (htwo : 2 ≤ i) :
    (whiten h l x)[i] = x[i] := by
  rw [whiten, Vector.getElem_set_ne _ _ (by omega), Vector.getElem_set_ne _ _ (by omega)]

/-- A whitened block shows the two bytes it was whitened with. -/
theorem whiten_inj_bytes {h l h' l' : Byte} {x : Block} (heq : whiten h l x = whiten h' l' x) : h = h' ∧ l = l' := by
  constructor
  · have h0 : x[0] ^^^ h = x[0] ^^^ h' := by rw [← whiten_getElem_zero h l, heq, whiten_getElem_zero]
    exact (BitVec.xor_right_inj _).mp h0
  · have h1 : x[1] ^^^ l = x[1] ^^^ l' := by rw [← whiten_getElem_one h l, heq, whiten_getElem_one]
    exact (BitVec.xor_right_inj _).mp h1

/-- Padding adds only zeros, which is what a field reads past the end of a string. -/
theorem field_padded (n : Nat) (pad : Bool) (p : List Byte) (off : Nat) :
    field n (padded pad p) off = field n p off := by
  apply Vector.ext
  intro i hi
  simp only [field, padded, zeros, Vector.getElem_ofFn]
  rcases Nat.lt_or_ge (off + i) p.length with hin | hout
  · rw [List.getD_append _ _ _ _ hin]
  · rw [List.getD_append_right _ _ _ _ hout, List.getD_eq_default _ _ hout, List.getD_eq_getElem?_getD,
      List.getElem?_getD_replicate_default_eq]

/-- R150, R151: ChainEnc's padded payload, with its zeros written out. -/
theorem padded_drop_header (pad : Bool) (b : List Byte) :
    padded pad (b.drop 4) = b.drop 4 ++ List.replicate (padLen pad (b.length - 4) - (b.length - 4)) 0 := by
  rw [padded, zeros, List.length_drop]

/-- R150: block `i` of a chained packet, counted after its header. -/
theorem field_chainEnc (pad : Bool) (k : Key) {b : List Byte} {i : Nat} (hb : 4 ≤ b.length)
    (hi : 16 * i < padLen pad (b.length - 4)) :
    field 16 (chainEnc pad k b) (4 + 16 * i) =
      aesEnc k (whiten (byteAt b 0) (byteAt b 1) (field 16 (padded pad (b.drop 4)) (16 * i))) := by
  have hheader : (b.take 4).length = 4 := List.length_take_of_le hb
  have hblock : i < padLen pad (b.length - 4) / 16 := by
    have := Nat.mul_div_cancel' (dvd_padLen pad (b.length - 4))
    omega
  calc field 16 (chainEnc pad k b) (4 + 16 * i)
      = field 16 (chainEnc pad k b) ((b.take 4).length + 16 * i) := by rw [hheader]
    _ = field 16 (chainBlocks k (byteAt b 0) (byteAt b 1) (padLen pad (b.length - 4) / 16)
          (padded pad (b.drop 4))) (16 * i) := field_append_right ..
    _ = _ := field_chainBlocks k _ _ hblock _

/-- R154 undoes R150: decryption removes the encryption, and its XOR the whitening. -/
theorem chainDec_aesEnc_whiten (k : Key) (h l : Byte) (x : Block) :
    chainDec k (be16 h l) (aesEnc k (whiten h l x)) = x := by
  rw [chainDec, hi8_be16, lo8_be16, aesDec_aesEnc, whiten_whiten]

/-- R157 for block `i`. -/
theorem chainDec_field_chainEnc (pad : Bool) (k : Key) {b : List Byte} {i : Nat} (hb : 4 ≤ b.length)
    (hi : 16 * i < padLen pad (b.length - 4)) :
    chainDec k (be16 (byteAt b 0) (byteAt b 1)) (field 16 (chainEnc pad k b) (4 + 16 * i)) =
      field 16 (padded pad (b.drop 4)) (16 * i) := by
  rw [field_chainEnc pad k hb hi, chainDec_aesEnc_whiten]

/-- R157 for a packet whose payload is one block: the payload is its own first padded block. -/
theorem chainDec_chainEnc_oneBlock (pad : Bool) (k : Key) (s : Sys2Proof.Seq) (t r : Byte) (p : Block) :
    chainDec k s (field 16 (chainEnc pad k (enc16 s ++ [t, r] ++ p.toList)) 4) = p := by
  have hlen : (enc16 s ++ [t, r] ++ p.toList).length - 4 = 16 := by simp
  have hblocks : 16 * 0 < padLen pad ((enc16 s ++ [t, r] ++ p.toList).length - 4) := by
    have := le_padLen pad 16
    rw [hlen]
    omega
  have hhigh : byteAt (enc16 s ++ [t, r] ++ p.toList) 0 = hi8 s := rfl
  have hlow : byteAt (enc16 s ++ [t, r] ++ p.toList) 1 = lo8 s := rfl
  have hpayload : (enc16 s ++ [t, r] ++ p.toList).drop 4 = p.toList := rfl
  have hblock := chainDec_field_chainEnc pad k (by simp) hblocks
  rwa [hhigh, hlow, be16_enc16, hpayload, field_padded, field_toList] at hblock

/-- Settles O29: the block's encryption and its whitening are both undone. -/
theorem chainDecryptionInvertsEncryption : Obligations.ChainDecryptionInvertsEncryption :=
  ⟨chainDec_chainEnc_oneBlock, fun pad k b _ hb hi =>
    padded_drop_header pad b ▸ chainDec_field_chainEnc pad k hb hi⟩

/-- The first two bytes of a packet, its sequence number on the wire. -/
theorem take_two_eq_bytes {b : List Byte} (hb : 4 ≤ b.length) : b.take 2 = [byteAt b 0, byteAt b 1] := by
  match b, hb with
  | _ :: _ :: _, _ => rfl

/-- Settles O30: a ciphertext block is a function of its plaintext block and the header, and injective in both. -/
theorem ecbWithinPacketDiversifiedAcross : Obligations.EcbWithinPacketDiversifiedAcross := by
  constructor
  · intro pad k b i j hb hi hj hplain
    rw [field_chainEnc pad k hb hi, field_chainEnc pad k hb hj, hplain]
  · intro pad k b c i j hb hc hi hj hplain hseq hcipher
    rw [field_chainEnc pad k hb hi, field_chainEnc pad k hc hj, hplain] at hcipher
    obtain ⟨hhigh, hlow⟩ := whiten_inj_bytes ((aesDecryptionInvertsEncryption k).2.2.injective hcipher)
    exact hseq (by rw [take_two_eq_bytes hb, take_two_eq_bytes hc, hhigh, hlow])

end Sys2Proof.Proofs.Chaining
end

section
/-! Frames that decode to nothing (spec/30_encoding.md R96, spec/46_control.md R255), and the operand fields of a frame
as its bytes (R93). -/

namespace Sys2Proof.Proofs.DecodedFrames
open Sys2Proof Sys2Proof.Machine Sys2Proof.Proofs.CommandFrames

theorem ifLegal_ne_errPortKind3 (legal : Bool) (i : Instr) : ifLegal legal i ≠ .error .errPortKind3 := by
  cases legal <;> simp [ifLegal]

theorem decodeOperands_ne_errPortKind3 (opc : Byte) (ops : List Byte) :
    decodeOperands opc ops ≠ .error .errPortKind3 := by
  simp [decodeOperands, ite_eq_iff, ifLegal_ne_errPortKind3]

/-- R102: only an event on the port is rejected for its failure kind. -/
theorem decodeFrame_ne_errPortKind3 (bytes : List Byte) : decodeFrame bytes ≠ .error .errPortKind3 := by
  unfold decodeFrame
  split
  · split
    · simp
    · split
      · exact decodeOperands_ne_errPortKind3 _ _
      · simp
  · simp

/-- R255: a frame is refused unless it decodes. -/
theorem refusesFrame_of_ne_ok {bytes : List Byte} (h : ∀ i, decodeFrame bytes ≠ .ok i) : RefusesFrame bytes := by
  cases hd : decodeFrame bytes with
  | ok i => exact absurd hd (h i)
  | error e =>
    exact refusesFrame_of_decodeFrame hd fun he => decodeFrame_ne_errPortKind3 bytes (he ▸ hd)

theorem toNat_enc8_of_le {n : Nat} (h : n ≤ 255) : (enc8 n).toNat = n := by
  rw [enc8, BitVec.toNat_ofNat, Nat.mod_eq_of_lt (by omega)]

theorem enc8_toNat (b : Byte) : enc8 b.toNat = b := by
  rw [enc8, BitVec.ofNat_toNat, BitVec.setWidth_eq]

/-- Two fields, one after the other, are one field. -/
theorem toList_field_append (m n : Nat) (b : List Byte) (off : Nat) :
    (field m b off).toList ++ (field n b (off + m)).toList = (field (m + n) b off).toList := by
  simp [field, Vector.toList_ofFn, List.ofFn_add, Nat.add_assoc]

/-- The field that covers a string is its bytes. -/
theorem toList_field_all {n : Nat} {b : List Byte} (h : b.length = n) : (field n b 0).toList = b := by
  rw [toList_field (by omega), List.drop_zero, List.take_of_length_le (by omega)]

end Sys2Proof.Proofs.DecodedFrames
end

section
/-! The command CHAIN_ENC (spec/42_block_cipher_chaining.md R150, R152): the bytes of its answer, and its frames. -/

namespace Sys2Proof.Proofs.ChainEncCommand
open Sys2Proof Sys2Proof.Machine
open Sys2Proof.Proofs.CommandFrames Sys2Proof.Proofs.Chaining Sys2Proof.Proofs.DecodedFrames

/-- R152: the only effect of the command is its answer, in every state. -/
theorem exec_chainEnc (k : Key) (b : List Byte) (s : State) :
    exec (.chainEnc k b) s =
      .next (answered (0x00 :: enc8 (chainEnc s.params.padWhenAligned k b).length ::
        chainEnc s.params.padWhenAligned k b) s) := rfl

/-- R151: a buffer of at most 239 bytes gives an answer of at most 244. -/
theorem padLen_le_240 (pad : Bool) {n : Nat} (h : n ≤ 235) : padLen pad n ≤ 240 := by
  cases pad <;> simp [padLen] <;> omega

theorem take_chainEnc (pad : Bool) (k : Key) {b : List Byte} (hb : 4 ≤ b.length) :
    (chainEnc pad k b).take 4 = b.take 4 := by
  rw [chainEnc, List.take_append_of_le_length (by simp [hb]), List.take_take, Nat.min_self]

/-- A whitened block, byte by byte. -/
theorem whiten_field (h l : Byte) (b : List Byte) (off : Nat) :
    whiten h l (field 16 b off) = Vector.ofFn fun j : Fin 16 =>
      b.getD (off + j.val) 0 ^^^ (if j.val = 0 then h else if j.val = 1 then l else 0) := by
  ext i hi
  match i with
  | 0 => simp [whiten_getElem_zero, field]
  | 1 => simp [whiten_getElem_one, field]
  | i + 2 => simp [whiten_getElem_of_two_le, field]

/-- R150: ciphertext block `n` as the bytes of the answer. -/
theorem take_drop_chainEnc (pad : Bool) (k : Key) {b : List Byte} {n : Nat} (hb : 4 ≤ b.length)
    (hn : 16 * n < padLen pad (b.length - 4)) :
    ((chainEnc pad k b).drop (4 + 16 * n)).take 16 =
      (aesEnc k (Vector.ofFn fun j : Fin 16 => b.getD (4 + 16 * n + j.val) 0 ^^^
        (if j.val = 0 then byteAt b 0 else if j.val = 1 then byteAt b 1 else 0))).toList := by
  have hlen : 4 + 16 * n + 16 ≤ (chainEnc pad k b).length := by
    have := dvd_padLen pad (b.length - 4)
    rw [length_chainEnc pad k hb]
    omega
  rw [← toList_field hlen, field_chainEnc pad k hb hn, field_padded, field_drop, whiten_field]

/-- R93: CHAIN_ENC's LEN is that of a key and a header at least. -/
theorem decodeFrame_chainEnc (len : Byte) (ops : List Byte) :
    decodeFrame (0x11 :: len :: ops) =
      if ops.length = len.toNat then
        ifLegal (decide (20 ≤ ops.length)) (.chainEnc (field 16 ops 0) (ops.drop 16))
      else .error .lengthMismatch := rfl

theorem decodeFrame_key_append_buffer (k : Key) {b : List Byte} (hb : 4 ≤ b.length) (hmax : b.length ≤ 239) :
    decodeFrame (0x11 :: enc8 (16 + b.length) :: (k.toList ++ b)) = .ok (.chainEnc k b) := by
  have hlen : (k.toList ++ b).length = 16 + b.length := by simp
  have hkey : field 16 (k.toList ++ b) 0 = k := by rw [field_append_left (by simp), field_toList]
  have hbuf : (k.toList ++ b).drop 16 = b := List.drop_left' (by simp)
  rw [decodeFrame_chainEnc, hlen, toNat_enc8_of_le (by omega), if_pos rfl, hkey, hbuf, ifLegal,
    if_pos (by simp; omega)]

/-- R96: a frame of the opcode that decodes is a key and a buffer of 4 to 239 bytes. -/
theorem frame_of_decodeFrame_chainEnc {bytes : List Byte} {i : Instr} (hopc : bytes.head? = some 0x11)
    (hd : decodeFrame bytes = .ok i) :
    ∃ (k : Key) (b : List Byte), 4 ≤ b.length ∧ b.length ≤ 239 ∧
      bytes = 0x11 :: enc8 (16 + b.length) :: (k.toList ++ b) := by
  match bytes, hopc with
  | [_], _ => cases hd
  | _ :: len :: ops, rfl =>
    rw [decodeFrame_chainEnc] at hd
    split at hd
    next hcount =>
      have hmin : 20 ≤ ops.length := by
        by_contra h
        simp [ifLegal, h] at hd
      have hmax := len.isLt
      have hbuf : (ops.drop 16).length = ops.length - 16 := List.length_drop
      have hlen : enc8 (16 + (ops.drop 16).length) = len := by
        rw [hbuf, Nat.add_sub_cancel' (by omega), hcount, enc8_toNat]
      have hops : (field 16 ops 0).toList ++ ops.drop 16 = ops := by
        rw [toList_field (by omega), List.drop_zero, List.take_append_drop]
      exact ⟨field 16 ops 0, ops.drop 16, by omega, by omega, by rw [hlen, hops]⟩
    next => cases hd

/-- Settles O26: the bytes answered are `chainEnc k b`, and a frame of the opcode that is no key and buffer does not
decode. -/
theorem chainEncEncryptsEachBlock : Obligations.ChainEncEncryptsEachBlock := by
  refine ⟨fun k b s hb hmax => ⟨chainEnc s.params.padWhenAligned k b, exec_chainEnc k b s, ?_,
    length_chainEnc _ k hb, take_chainEnc _ k hb, fun n => take_drop_chainEnc _ k hb⟩,
    fun _ k _ => decodeFrame_key_append_buffer k, fun bytes hopc hbytes => refusesFrame_of_ne_ok fun i hd => ?_⟩
  · have := padLen_le_240 s.params.padWhenAligned (n := b.length - 4) (by omega)
    rw [length_chainEnc _ k hb]
    omega
  · obtain ⟨k, b, hb, hmax, hframe⟩ := frame_of_decodeFrame_chainEnc hopc hd
    exact hbytes k b hb hmax hframe

end Sys2Proof.Proofs.ChainEncCommand
end

section
/-! The command CHAIN_DEC (spec/42_block_cipher_chaining.md R154, R155): the bytes of its answer, and its frames. -/

namespace Sys2Proof.Proofs.ChainDecCommand
open Sys2Proof Sys2Proof.Machine
open Sys2Proof.Proofs.CommandFrames Sys2Proof.Proofs.Chaining Sys2Proof.Proofs.DecodedFrames

/-- R155: the only effect of the command is its answer, in every state. -/
theorem exec_chainDec (k : Key) (sq : Sys2Proof.Seq) (c : Block) (s : State) :
    exec (.chainDec k sq c) s = .next (answered (0x00 :: 0x10 :: (chainDec k sq c).toList) s) := by
  have hframe : responseFrame .ok (chainDec k sq c).toList = 0x00 :: 0x10 :: (chainDec k sq c).toList := by
    simp [responseFrame, statusCode, enc8]
  rw [exec, execChainDec, respond, hframe, answered]

/-- R93: CHAIN_DEC takes 34 operand bytes, a key, a sequence number and a block. -/
theorem chainDec_fixedLength : FixedLength 0x12 34 fun ops =>
    .chainDec (field 16 ops 0) (be16 (byteAt ops 16) (byteAt ops 17)) (field 16 ops 18) := fun _ _ => rfl

theorem decodeFrame_chainDec (k : Key) (h l : Byte) (c : Block) :
    decodeFrame (0x12 :: 0x22 :: (k.toList ++ [h, l] ++ c.toList)) = .ok (.chainDec k (be16 h l) c) := by
  have hkey : field 16 (k.toList ++ [h, l] ++ c.toList) 0 = k := by
    rw [field_append_left (by simp), field_append_left (by simp), field_toList]
  have hhigh : byteAt (k.toList ++ [h, l] ++ c.toList) 16 = h := by simp [byteAt]
  have hlow : byteAt (k.toList ++ [h, l] ++ c.toList) 17 = l := by simp [byteAt]
  have hblk : field 16 (k.toList ++ [h, l] ++ c.toList) 18 = c := by
    simpa using field_append_right 16 (k.toList ++ [h, l]) c.toList 0
  rw [chainDec_fixedLength.decodeFrame_of_length rfl (by simp), hkey, hhigh, hlow, hblk]

/-- The operands of CHAIN_DEC are its three fields, one after the other. -/
theorem key_append_seq_append_block {ops : List Byte} (hops : ops.length = 34) :
    (field 16 ops 0).toList ++ [byteAt ops 16, byteAt ops 17] ++ (field 16 ops 18).toList = ops :=
  calc (field 16 ops 0).toList ++ (field 2 ops 16).toList ++ (field 16 ops 18).toList
      = (field 18 ops 0).toList ++ (field 16 ops 18).toList := by rw [← toList_field_append 16 2 ops 0]
    _ = (field 34 ops 0).toList := toList_field_append 18 16 ops 0
    _ = ops := toList_field_all hops

/-- Settles O27: the block answered is `chainDec k sq c`, and a frame of the opcode that is no key, sequence number and
block has not CHAIN_DEC's length. -/
theorem chainDecDecryptsOneBlock : Obligations.ChainDecDecryptsOneBlock := by
  refine ⟨fun k sq c s => ⟨chainDec k sq c, exec_chainDec k sq c s, whiten_getElem_zero .., whiten_getElem_one ..,
    fun _ => whiten_getElem_of_two_le _ _ _⟩, fun _ => decodeFrame_chainDec, fun bytes hopc hbytes => ?_⟩
  refine chainDec_fixedLength.refusesFrame hopc fun len ops hlen hops hframe => ?_
  obtain rfl : len = 0x22 := BitVec.eq_of_toNat_eq hlen
  exact hbytes _ _ _ _ (key_append_seq_append_block hops ▸ hframe)

end Sys2Proof.Proofs.ChainDecCommand
end

section
/-! The command FRAME (spec/43_packet_codec.md R170, R172): the three forms of its answer, and its frames. -/

namespace Sys2Proof.Proofs.FrameCommand
open Sys2Proof Sys2Proof.Machine
open Sys2Proof.Proofs.CommandFrames Sys2Proof.Proofs.DecodedFrames

/-- R172: the only effect of the command is its answer, in every state. -/
theorem exec_frame (sq : Sys2Proof.Seq) (t : Byte) (kp : Bool) (k : Key) (p : List Byte) (s : State) :
    exec (.frame sq t kp k p) s =
      .next (answered (0x00 :: enc8 (frame s.params.padWhenAligned sq t kp k p).length ::
        frame s.params.padWhenAligned sq t kp k p) s) := rfl

/-- R82: the types that are sent in plaintext even under a key. -/
theorem needsEnc_eq_false_iff (t : Byte) : needsEnc t = false ↔ t = 0x00 ∨ t = 0x01 ∨ t = 0x02 := by
  simp [needsEnc, or_iff_not_imp_left]

/-- R82: every other type is sent encrypted under a key. -/
theorem needsEnc_iff (t : Byte) : needsEnc t = true ↔ t ≠ 0x00 ∧ t ≠ 0x01 ∧ t ≠ 0x02 := by
  simp [needsEnc, and_assoc]

/-- R170: with no key, the bare header. -/
theorem frame_no_key (pad : Bool) (sq : Sys2Proof.Seq) (t : Byte) (k : Key) (p : List Byte) :
    frame pad sq t false k p = packetHeader sq t := rfl

/-- R170: a plaintext type, header and payload. -/
theorem frame_plain (pad : Bool) (sq : Sys2Proof.Seq) {t : Byte} (k : Key) (p : List Byte) (ht : needsEnc t = false) :
    frame pad sq t true k p = packetHeader sq t ++ p := by
  simp [frame, ht]

/-- R170: every other type, the chained packet. -/
theorem frame_chained (pad : Bool) (sq : Sys2Proof.Seq) {t : Byte} (k : Key) (p : List Byte) (ht : needsEnc t = true) :
    frame pad sq t true k p = chainEnc pad k (packetHeader sq t ++ p) := by
  simp [frame, ht]

/-- R150 for a packet of a header and a payload. -/
theorem length_chainEnc_packet (pad : Bool) (k : Key) (sq : Sys2Proof.Seq) (t : Byte) (p : List Byte) :
    (chainEnc pad k (packetHeader sq t ++ p)).length = 4 + padLen pad p.length := by
  rw [length_chainEnc pad k (by simp)]
  simp

/-- R93: FRAME's LEN is that of a header and a key at least, and its fourth operand byte tells whether the key is
used. -/
theorem decodeFrame_frame (len : Byte) (ops : List Byte) :
    decodeFrame (0x13 :: len :: ops) =
      if ops.length = len.toNat then
        if ops.length < 20 then .error .illegalLen
        else if byteAt ops 3 = 0x00 ∨ byteAt ops 3 = 0x01 then
          .ok (.frame (be16 (byteAt ops 0) (byteAt ops 1)) (byteAt ops 2) (byteAt ops 3 == 0x01) (field 16 ops 4)
            (ops.drop 20))
        else .error .keyPresent
      else .error .lengthMismatch := rfl

/-- R93: the byte KP, read. -/
theorem keyPresent_legal_and_read (kp : Bool) :
    ((if kp then (1 : Byte) else 0) = 0x00 ∨ (if kp then (1 : Byte) else 0) = 0x01) ∧
      ((if kp then (1 : Byte) else 0) == 0x01) = kp := by
  cases kp <;> decide

/-- R93: a legal byte KP is the one that is read. -/
theorem keyPresent_written {b : Byte} (h : b = 0x00 ∨ b = 0x01) : (if b == 0x01 then (1 : Byte) else 0) = b := by
  rcases h with rfl | rfl <;> decide

theorem decodeFrame_header_append_key (h l t : Byte) (kp : Bool) (k : Key) {p : List Byte} (hp : p.length ≤ 235) :
    decodeFrame (0x13 :: enc8 (20 + p.length) :: ([h, l, t, if kp then 1 else 0] ++ k.toList ++ p)) =
      .ok (.frame (be16 h l) t kp k p) := by
  have hlen : ([h, l, t, if kp then 1 else 0] ++ k.toList ++ p).length = 20 + p.length := by simp; omega
  have hkey : field 16 ([h, l, t, if kp then 1 else 0] ++ k.toList ++ p) 4 = k := by
    rw [field_append_left (by simp)]
    simpa using field_append_right 16 [h, l, t, if kp then 1 else 0] k.toList 0
  have hpayload : ([h, l, t, if kp then 1 else 0] ++ k.toList ++ p).drop 20 = p := List.drop_left' (by simp)
  obtain ⟨hlegal, hread⟩ := keyPresent_legal_and_read kp
  have hkp : byteAt ([h, l, t, if kp then 1 else 0] ++ k.toList ++ p) 3 = if kp then 1 else 0 := rfl
  rw [decodeFrame_frame, hlen, toNat_enc8_of_le (by omega), if_pos rfl, if_neg (by omega), hkp, if_pos hlegal, hread,
    hkey, hpayload]
  rfl

/-- The operands of FRAME are its header bytes, its key and its payload, one after the other. -/
theorem header_append_key_append_payload {ops : List Byte} (hops : 20 ≤ ops.length) :
    [byteAt ops 0, byteAt ops 1, byteAt ops 2, byteAt ops 3] ++ (field 16 ops 4).toList ++ ops.drop 20 = ops :=
  calc (field 4 ops 0).toList ++ (field 16 ops 4).toList ++ ops.drop 20
      = (field 20 ops 0).toList ++ ops.drop 20 := by rw [← toList_field_append 4 16 ops 0]
    _ = ops.take 20 ++ ops.drop 20 := by rw [toList_field (by omega), List.drop_zero]
    _ = ops := List.take_append_drop 20 ops

/-- R96: a frame of the opcode that decodes is a header with a legal KP, a key and a payload of at most 235 bytes. -/
theorem frame_of_decodeFrame_frame {bytes : List Byte} {i : Instr} (hopc : bytes.head? = some 0x13)
    (hd : decodeFrame bytes = .ok i) :
    ∃ (h l t : Byte) (kp : Bool) (k : Key) (p : List Byte), p.length ≤ 235 ∧
      bytes = 0x13 :: enc8 (20 + p.length) :: ([h, l, t, if kp then 1 else 0] ++ k.toList ++ p) := by
  match bytes, hopc with
  | [_], _ => cases hd
  | _ :: len :: ops, rfl =>
    rw [decodeFrame_frame] at hd
    split_ifs at hd with hcount hmin hkp
    have hmax := len.isLt
    have hpayload : (ops.drop 20).length = ops.length - 20 := List.length_drop
    have hlen : enc8 (20 + (ops.drop 20).length) = len := by
      rw [hpayload, Nat.add_sub_cancel' (by omega), hcount, enc8_toNat]
    exact ⟨byteAt ops 0, byteAt ops 1, byteAt ops 2, byteAt ops 3 == 0x01, field 16 ops 4, ops.drop 20, by omega,
      by rw [hlen, keyPresent_written hkp, header_append_key_append_payload (by omega)]⟩

/-- Settles O31: the answer is `frame`, in the form its key and type select, and a frame of the opcode that is no
header, key and payload does not decode. -/
theorem frameSelectsOneOfThreeForms : Obligations.FrameSelectsOneOfThreeForms := by
  refine ⟨fun sq t k p s _ =>
      ⟨?noKey, fun ht => ?plain, fun ht => ⟨?chained, length_chainEnc_packet _ k sq t p⟩⟩,
    fun _ h l t kp k _ => decodeFrame_header_append_key h l t kp k,
    fun bytes hopc hbytes => refusesFrame_of_ne_ok fun i hd => ?refused⟩
  case noKey =>
    rw [exec_frame, frame_no_key]
    rfl
  case plain =>
    rw [exec_frame, frame_plain _ sq k p ((needsEnc_eq_false_iff t).mpr ht), List.length_append, length_packetHeader]
    rfl
  case chained =>
    rw [exec_frame, frame_chained _ sq k p ((needsEnc_iff t).mpr ht), length_chainEnc_packet]
    rfl
  case refused =>
    obtain ⟨h, l, t, kp, k, p, hp, hframe⟩ := frame_of_decodeFrame_frame hopc hd
    exact hbytes h l t kp k p hp hframe

end Sys2Proof.Proofs.FrameCommand
end

section
/-! The sequence counter and the command SEQ_NEXT (spec/44_sequence_counter.md R190 to R192): the next number as
arithmetic, the answer that carries it, and the command's one frame. -/

namespace Sys2Proof.Proofs.SequenceCounter
open Sys2Proof Sys2Proof.Machine Sys2Proof.Proofs.CommandFrames

/-- R190: the 17-bit sum does not overflow. -/
theorem toNat_setWidth_add_one (q : Sys2Proof.Seq) : (q.setWidth 17 + 1).toNat = q.toNat + 1 := by
  bv_omega

/-- R191: the number after 65535 is 1, and after every other number it is one more. -/
theorem toNat_nextSeq (q : Sys2Proof.Seq) :
    (nextSeq q).toNat = if q.toNat = 65535 then 1 else q.toNat + 1 := by
  have hq := q.isLt
  simp only [nextSeq, toNat_setWidth_add_one]
  by_cases hwrap : q.toNat = 65535
  · rw [if_pos (by omega), if_pos hwrap]
    rfl
  · rw [if_neg (by omega), if_neg hwrap, BitVec.toNat_setWidth, toNat_setWidth_add_one, Nat.mod_eq_of_lt (by omega)]

/-- R191: 0 is never handed out. -/
theorem nextSeq_ne_zero (q : Sys2Proof.Seq) : nextSeq q ≠ 0 := by
  intro hzero
  have hnext := toNat_nextSeq q
  rw [hzero] at hnext
  split at hnext <;> cases hnext

/-- R192: the command writes SEQ and answers what it wrote, in every state. -/
theorem exec_seqNext (s : State) :
    exec .seqNext s =
      .next (answered [0x00, 0x02, hi8 (nextSeq s.seq), lo8 (nextSeq s.seq)] { s with seq := nextSeq s.seq }) := rfl

/-- R93: SEQ_NEXT takes no operand bytes. -/
theorem seqNext_fixedLength : FixedLength 0x20 0 fun _ => .seqNext := fun _ _ => rfl

theorem decodeFrame_seqNext : decodeFrame [0x20, 0x00] = .ok .seqNext :=
  seqNext_fixedLength.decodeFrame_of_length rfl rfl

/-- R96: an opcode without operands has one frame, and every other frame of it is refused. -/
theorem refusesFrame_of_ne_bare {opc : Byte} {instr : List Byte → Instr} (hfixed : FixedLength opc 0 instr)
    {bytes : List Byte} (hopc : bytes.head? = some opc) (hbytes : bytes ≠ [opc, 0x00]) : RefusesFrame bytes := by
  refine hfixed.refusesFrame hopc fun len ops hlen hops hframe => hbytes ?_
  obtain rfl : len = 0x00 := BitVec.eq_of_toNat_eq hlen
  rw [hframe, List.eq_nil_of_length_eq_zero hops]

/-- Settles O32: the number taken is `nextSeq` of SEQ, and SEQ_NEXT has one frame. -/
theorem seqNextTakesTheNextNumber : Obligations.SeqNextTakesTheNextNumber :=
  ⟨fun s => ⟨nextSeq s.seq, exec_seqNext s, rfl, nextSeq_ne_zero s.seq, toNat_nextSeq s.seq⟩,
    fun _ => decodeFrame_seqNext, fun _ => refusesFrame_of_ne_bare seqNext_fixedLength⟩

end Sys2Proof.Proofs.SequenceCounter
end

section
/-! The session commands NEW_SESSION, HS_START and CLOSE (spec/45_handshake.md R205, R206, R219, R221): what each does
where it is legal, its refusal elsewhere, and its one frame. -/

namespace Sys2Proof.Proofs.SessionCommands
open Sys2Proof Sys2Proof.Machine
open Sys2Proof.Proofs.CommandFrames Sys2Proof.Proofs.SequenceCounter

/-- R91: the answer of a command that gives no data. -/
theorem respond_ok_nil (s : State) : respond .ok [] s = answered [0x00, 0x00] s := rfl

/-- R271: a refusal for the state the session is in. -/
theorem cmdError_badState (s : State) : cmdError .badState s = answered [0x02, 0x00] s := rfl

/-- R221: the empty session, register by register. -/
theorem emptySession_eq (s : State) :
    emptySession s =
      { s with
        sid := Vector.replicate 5 0, sidValid := false, sk := Vector.replicate 16 0, skValid := false
        seq := 0, lastSeq := 0, rxBuf := Vector.replicate 20 0, rxCnt := 0, err := .none, tOpen := true
        hsState := .disconnected } := rfl

/-- R221: where NEW_SESSION is legal. -/
theorem exec_newSession_legal {s : State} (h : s.hsState = .disconnected ∧ s.tOpen = false ∨ s.hsState = .failed) :
    exec .newSession s = .next (answered [0x00, 0x00] (emptySession s)) := by
  rw [exec, execNewSession, if_pos h, respond_ok_nil]

theorem exec_newSession_refused {s : State}
    (h : ¬ (s.hsState = .disconnected ∧ s.tOpen = false ∨ s.hsState = .failed)) :
    exec .newSession s = .next (answered [0x02, 0x00] s) := by
  rw [exec, execNewSession, if_neg h, cmdError_badState]

/-- R205: where HS_START is legal. -/
theorem exec_hsStart_legal {s : State} (h : s.hsState = .disconnected ∧ s.tOpen = true ∧ s.ltkValid = true) :
    exec .hsStart s = .next (answered [0x00, 0x00] (startHandshake s)) := by
  rw [exec, execHsStart, if_pos h, respond_ok_nil]

theorem exec_hsStart_refused {s : State} (h : ¬ (s.hsState = .disconnected ∧ s.tOpen = true ∧ s.ltkValid = true)) :
    exec .hsStart s = .next (answered [0x02, 0x00] s) := by
  rw [exec, execHsStart, if_neg h, cmdError_badState]

/-- R219: CLOSE always answers OK. -/
theorem exec_close (s : State) : exec .close s = .next (answered [0x00, 0x00] (closeSession s)) := rfl

theorem closeSession_awaiting {s : State} (h : s.hsState = .awaitNsAck ∨ s.hsState = .awaitSsAck) :
    closeSession s = failedBy .aborted s := by
  rcases h with h | h
  all_goals
    rw [closeSession, h]
    exact fail_eq_failedBy .aborted (by simp [h])

theorem closeSession_established {s : State} (h : s.hsState = .established) :
    closeSession s =
      { s with
        tOpen := false, txOut := s.txOut ++ [.close], sid := Vector.replicate 5 0, sidValid := false
        sk := Vector.replicate 16 0, skValid := false, hsState := .disconnected } := by
  rw [closeSession, h]
  rfl

theorem closeSession_disconnected {s : State} (h : s.hsState = .disconnected) :
    closeSession s = { s with tOpen := false, txOut := s.txOut ++ if s.tOpen = true then [.close] else [] } := by
  have hclose : closeSession s = closeTransport s := by rw [closeSession, h]
  rw [hclose, closeTransport_eq]

theorem closeSession_failed {s : State} (h : s.hsState = .failed) : closeSession s = s := by
  rw [closeSession, h]

/-- R96: the one frame of an opcode without operands. -/
theorem decodeFrame_bare {opc : Byte} {instr : List Byte → Instr} (hfixed : FixedLength opc 0 instr) :
    decodeFrame [opc, 0x00] = .ok (instr []) :=
  hfixed.decodeFrame_of_length rfl rfl

/-- R93: the three commands take no operand bytes. -/
theorem newSession_fixedLength : FixedLength 0x02 0 fun _ => .newSession := fun _ _ => rfl

theorem hsStart_fixedLength : FixedLength 0x03 0 fun _ => .hsStart := fun _ _ => rfl

theorem close_fixedLength : FixedLength 0x04 0 fun _ => .close := fun _ _ => rfl

/-- Settles O16: where it is legal NEW_SESSION writes `emptySession`, which keeps LTK, and it has one frame. -/
theorem newSessionStartsEmpty : Obligations.NewSessionStartsEmpty :=
  ⟨fun s => ⟨fun h => emptySession_eq s ▸ exec_newSession_legal h, exec_newSession_refused⟩,
    fun _ => decodeFrame_bare newSession_fixedLength, fun _ => refusesFrame_of_ne_bare newSession_fixedLength⟩

/-- Settles O17: where it is legal HS_START is T1, `startHandshake`, and it has one frame. -/
theorem hsStartSendsExchangeOneRequest : Obligations.HsStartSendsExchangeOneRequest :=
  ⟨fun s => ⟨fun h => startHandshake_eq s ▸ exec_hsStart_legal h, exec_hsStart_refused⟩,
    fun _ => decodeFrame_bare hsStart_fixedLength, fun _ => refusesFrame_of_ne_bare hsStart_fixedLength⟩

/-- Settles O18: CLOSE answers OK after `closeSession`, state by state, and it has one frame. -/
theorem closeByState : Obligations.CloseByState :=
  ⟨fun s =>
    ⟨fun h => closeSession_awaiting h ▸ exec_close s, fun h => closeSession_established h ▸ exec_close s,
      fun h => closeSession_disconnected h ▸ exec_close s,
      fun h => (exec_close s).trans (by rw [closeSession_failed h])⟩,
    fun _ => decodeFrame_bare close_fixedLength, fun _ => refusesFrame_of_ne_bare close_fixedLength⟩

end Sys2Proof.Proofs.SessionCommands
end

section
/-! The events of a response (spec/45_handshake.md R209 to R217), one byte at a time: what the 4th, the 11th and the
20th byte do, and what a transport failure does. -/

namespace Sys2Proof.Proofs.ResponseEvents
open Sys2Proof Sys2Proof.Machine
open Sys2Proof.Proofs.Chaining Sys2Proof.Proofs.ChainEncCommand Sys2Proof.Proofs.FrameCommand

/-- R210: an awaiting core takes the byte. -/
theorem exec_rxByte_awaiting (b : Byte) {s : State} (h : s.hsState = .awaitNsAck ∨ s.hsState = .awaitSsAck) :
    exec (.rxByte b) s = .next (acceptByte b s) := by
  rw [exec, execRxByte, if_pos ((awaiting_iff s).mpr h)]

/-- R210: the byte after the first `n` of a response is stored at index `n`. -/
theorem storeByte_eq_set (b : Byte) {s : State} {n : BitVec 5} (h : s.rxCnt = n) (hn : n.toNat < 20) :
    storeByte b s = { s with rxBuf := s.rxBuf.set n.toNat b, rxCnt := n + 1 } := by
  have hset : s.rxBuf.setIfInBounds n.toNat b = s.rxBuf.set n.toNat b := by
    simp [Vector.setIfInBounds, Array.setIfInBounds, Vector.set, hn]
  rw [storeByte, h, hset]

/-- R9: a two-byte number as arithmetic. -/
theorem toNat_be16 (h l : Byte) : (be16 h l).toNat = h.toNat * 256 + l.toNat := by
  rw [be16, BitVec.toNat_append, ← Nat.shiftLeft_add_eq_or_of_lt l.isLt, Nat.shiftLeft_eq]

/-- R211: the three checks in their order, each with what its failure records. -/
theorem headerCheck_eq_failedBy (expected : Byte) {s : State} (h : s.hsState ≠ .failed) :
    headerCheck expected s =
      if s.rxBuf[0].toNat * 256 + s.rxBuf[1].toNat ≠ s.lastSeq.toNat then failedBy .protocolMismatch s
      else if s.params.ccsDistinct = true ∧ s.rxBuf[2] = 0x07 then failedBy .cannotCreateSession s
      else if s.rxBuf[2] ≠ expected then failedBy .unexpectedMessageType s
      else s := by
  simp only [headerCheck, fail_eq_failedBy _ h, ne_eq, ← BitVec.toNat_inj, toNat_be16, typeCannotCreateSession]

/-- Settles O38: the 4th byte is stored beside the header, which is then checked. -/
theorem headerCheckFindsFirstFault : Obligations.HeaderCheckFindsFirstFault := by
  intro b expected s hs hcnt
  have hawait : s.hsState = .awaitNsAck ∨ s.hsState = .awaitSsAck := hs.imp And.left And.left
  have hlive : (storeByte b s).hsState ≠ .failed := by rcases hawait with h | h <;> simp [h]
  have htype : (if s.hsState = .awaitNsAck then typeAckNewSession else typeAckSecureSession) = expected := by
    rcases hs with ⟨h, rfl⟩ | ⟨h, rfl⟩ <;> simp [h, typeAckNewSession, typeAckSecureSession]
  rw [exec_rxByte_awaiting b hawait, acceptByte_header b s hcnt, htype, headerCheck_eq_failedBy expected hlive,
    storeByte_rxBuf_of_lt b s (by simp [hcnt]) (by decide), storeByte_rxBuf_of_lt b s (by simp [hcnt]) (by decide),
    storeByte_rxBuf_of_lt b s (by simp [hcnt]) (by decide), storeByte_lastSeq, storeByte_params,
    storeByte_eq_set b hcnt (by decide)]
  rfl

/-- R151: a payload shorter than a block is padded to one block. -/
theorem padLen_of_lt (pad : Bool) {n : Nat} (hpos : 0 < n) (hlt : n < 16) : padLen pad n = 16 := by
  cases pad <;> simp [padLen] <;> omega

/-- R150: a packet whose payload is shorter than a block is its header and one ciphertext block. -/
theorem chainEnc_shortPacket (pad : Bool) (k : Key) (n : Sys2Proof.Seq) (t : Byte) {p : List Byte} (hpos : 0 < p.length)
    (hlt : p.length < 16) :
    chainEnc pad k (packetHeader n t ++ p) =
      packetHeader n t ++ (aesEnc k (whiten (hi8 n) (lo8 n) (field 16 p 0))).toList := by
  have hlen : (packetHeader n t ++ p).length - 4 = p.length := by simp
  have hpayload : (packetHeader n t ++ p).drop 4 = p := rfl
  have hheader : (packetHeader n t ++ p).take 4 = packetHeader n t := rfl
  rw [chainEnc, hlen, hpayload, hheader, padLen_of_lt pad hpos hlt]
  simp only [chainBlocks, field_padded, List.append_nil]
  rfl

/-- R214: the exchange-2 request, whichever way aligned payloads are padded. -/
theorem frame_sid (pad : Bool) (k : Key) (n : Sys2Proof.Seq) (sid : Sid) :
    frame pad n typeReqSecureSession true k sid.toList =
      packetHeader n typeReqSecureSession ++ (aesEnc k (whiten (hi8 n) (lo8 n) (field 16 sid.toList 0))).toList := by
  rw [frame_chained pad n k sid.toList rfl, chainEnc_shortPacket pad k n _ (by simp) (by simp)]

/-- R150: the whitened block of a session identifier, written out. -/
theorem whiten_sid (h l : Byte) (sid : Sid) :
    whiten h l (field 16 sid.toList 0) =
      #v[sid[0] ^^^ h, sid[1] ^^^ l, sid[2], sid[3], sid[4], 0, 0, 0, 0, 0, 0, 0, 0, 0, 0, 0] := by
  rw [whiten_field]
  ext i hi : 1
  interval_cases i <;> simp

/-- R213: the session identifier once the 11th byte is stored. -/
theorem field_storeByte_sid (b : Byte) {s : State} (h : s.rxCnt = 10) :
    field 5 (storeByte b s).rxBuf.toList 6 = #v[s.rxBuf[6], s.rxBuf[7], s.rxBuf[8], s.rxBuf[9], b] := by
  rw [storeByte_eq_set b h (by decide)]
  ext i hi : 1
  interval_cases i <;> simp [field]

/-- Settles O39: the 11th byte is stored, and T2 and T3 follow in the same transition. -/
theorem exchangeOneDerivesKeyAndSendsRequest : Obligations.ExchangeOneDerivesKeyAndSendsRequest := by
  rintro b s hs hcnt sid sk n hsid rfl rfl
  have hfield := (field_storeByte_sid b hcnt).trans hsid.symm
  rw [exec_rxByte_awaiting b (.inl hs), acceptByte_exchange1 b s hs hcnt, completeExchange1_eq, hfield, frame_sid,
    whiten_sid, storeByte_eq_set b hcnt (by decide)]
  rfl

/-- The five bytes of a whitened block that are compared with SID. -/
theorem whiten_startsWith_iff (h l : Byte) (p : Block) (sid : Sid) :
    (∀ (i : Nat) (hi : i < 5), (whiten h l p)[i] = sid[i]) ↔
      p[0] ^^^ h = sid[0] ∧ p[1] ^^^ l = sid[1] ∧ p[2] = sid[2] ∧ p[3] = sid[3] ∧ p[4] = sid[4] := by
  have htail {i : Nat} (hi : i < 16) (htwo : 2 ≤ i) := whiten_getElem_of_two_le h l p hi htwo
  rw [← whiten_getElem_zero h l p, ← whiten_getElem_one h l p, ← htail (i := 2) (by decide) (by decide),
    ← htail (i := 3) (by decide) (by decide), ← htail (i := 4) (by decide) (by decide)]
  constructor
  · exact fun hall => ⟨hall 0 _, hall 1 _, hall 2 _, hall 3 _, hall 4 _⟩
  · rintro ⟨h0, h1, h2, h3, h4⟩ i hi
    match i with
    | 0 | 1 | 2 | 3 | 4 => assumption

/-- R216: the check of the 20th byte, on the decrypted block `p`. -/
theorem sidMatches_iff_bytes (b : Byte) (s : State) (p : Block)
    (hp : p = aesDec s.sk (Vector.ofFn fun i => if h : i.val < 15 then s.rxBuf[4 + i.val] else b)) :
    SidMatches s b ↔ p[0] ^^^ s.rxBuf[0] = s.sid[0] ∧ p[1] ^^^ s.rxBuf[1] = s.sid[1] ∧ p[2] = s.sid[2] ∧
      p[3] = s.sid[3] ∧ p[4] = s.sid[4] := by
  rw [← whiten_startsWith_iff, hp, SidMatches]
  simp only [chainDec, hi8_be16, lo8_be16]

/-- Settles O40: the 20th byte is stored, and T4 compares the decrypted block with SID. -/
theorem exchangeTwoChecksIdentifier : Obligations.ExchangeTwoChecksIdentifier := by
  intro b s p hs hcnt hp
  have hlive : (storeByte b s).hsState ≠ .failed := by simp [hs]
  have hcases := completeExchange2_cases (storeByte b s)
  rw [ne_eq, sidMatches_iff b hcnt, fail_eq_failedBy _ hlive] at hcases
  rw [exec_rxByte_awaiting b (.inr hs), acceptByte_exchange2 b s hs hcnt, ← sidMatches_iff_bytes b s p hp]
  rw [storeByte_eq_set b hcnt (by decide)] at hcases ⊢
  rcases hcases with ⟨hmatch, heq⟩ | ⟨hmatch, heq⟩
  · exact ⟨fun _ => congrArg _ heq, fun h => absurd hmatch h⟩
  · exact ⟨fun h => absurd h hmatch, fun _ => congrArg _ heq⟩

/-- R217: a failure that matters fails the session, whatever its kind. -/
theorem exec_tErr_live (k : TErrKind) {s : State}
    (h : s.hsState = .awaitNsAck ∨ s.hsState = .awaitSsAck ∨ s.hsState = .established ∨
      s.hsState = .disconnected ∧ s.tOpen = true) :
    exec (.tErr k) s = .next (failedBy .transportError s) := by
  have hlive : s.hsState ≠ .failed := by rcases h with h | h | h | ⟨h, -⟩ <;> simp [h]
  rw [exec, execTErr, if_pos ((failureMatters_iff s).mpr h), fail_eq_failedBy _ hlive]

/-- R217: any other failure is ignored. -/
theorem exec_tErr_ignored (k : TErrKind) {s : State}
    (h : s.hsState = .failed ∨ s.hsState = .disconnected ∧ s.tOpen = false) : exec (.tErr k) s = .next s := by
  have hidle : ¬ failureMatters s = true := by
    rw [failureMatters_iff]
    rcases h with h | ⟨h, ho⟩ <;> simp_all
  rw [exec, execTErr, if_neg hidle]

/-- Settles O41: the kind is not looked at, and the port's three codes are the three kinds. -/
theorem transportErrorFailsSession : Obligations.TransportErrorFailsSession :=
  ⟨fun k _ => ⟨exec_tErr_live k, exec_tErr_ignored k⟩, fun _ _ => rfl, rfl, rfl, rfl⟩

end Sys2Proof.Proofs.ResponseEvents
end

section
/-! A successful handshake (spec/45_handshake.md R223): the request, the run over each correct response, and the
confirmation block. A response is followed byte by byte through `reading`, the state that has read a part of it. -/

namespace Sys2Proof.Proofs.SuccessfulHandshake
open Sys2Proof Sys2Proof.Machine
open Sys2Proof.Proofs.CommandFrames Sys2Proof.Proofs.Chaining Sys2Proof.Proofs.FrameCommand
open Sys2Proof.Proofs.SessionCommands Sys2Proof.Proofs.ResponseEvents

theorem run_succ {M : Host.Core} {s t : M.State} (k : Nat) (h : M.step s = .next t) : M.run (k + 1) s = M.run k t := by
  rw [Host.Core.run, h]

/-- A run goes on from where its first `m` steps lead. -/
theorem run_add {M : Host.Core} {m : Nat} {s t : M.State} (n : Nat) (h : M.run m s = .next t) :
    M.run (m + n) s = M.run n t := by
  induction m generalizing s with
  | zero =>
    injection h with h
    rw [Nat.zero_add, h]
  | succ m ih =>
    rw [Nat.add_right_comm]
    cases hstep : M.step s with
    | next s' =>
      rw [run_succ m hstep] at h
      rw [run_succ (m + n) hstep, ih h]
    | fault _ | refused _ =>
      rw [Host.Core.run, hstep] at h
      cases h

theorem run_step {s t : State} (k : Nat) (h : step s = .next t) :
    Host.Core.run Sys2Proof.core (k + 1) s = Host.Core.run Sys2Proof.core k t := run_succ k h

/-- The receive buffer `buf` with its first bytes overwritten by `bytes`. It is irreducible so that comparing two states
does not evaluate their buffers: its lemmas say what it holds. -/
@[irreducible] def fill (bytes : List Byte) (buf : RxBuf) : RxBuf := Vector.ofFn fun i => bytes.getD i.val buf[i.val]

@[simp] theorem fill_nil (buf : RxBuf) : fill [] buf = buf := by
  simp [fill]

theorem getElem_fill {bytes : List Byte} {i : Nat} (hi : i < bytes.length) (hmax : i < 20) (buf : RxBuf) :
    (fill bytes buf)[i] = bytes[i] := by
  simp [fill, hi]

theorem setIfInBounds_fill (bytes : List Byte) (b : Byte) (buf : RxBuf) :
    (fill bytes buf).setIfInBounds bytes.length b = fill (bytes ++ [b]) buf := by
  ext i hi : 1
  rw [Vector.getElem_setIfInBounds]
  split
  · next heq => simp [fill, ← heq]
  · next hne =>
    simp only [fill, Vector.getElem_ofFn]
    rcases Nat.lt_or_gt_of_ne hne with hlt | hgt
    · rw [List.getD_eq_default _ _ (by omega), List.getD_eq_default _ _ (by simp; omega)]
    · rw [List.getD_append _ _ _ _ hgt]

theorem field_fill {n off : Nat} {bytes : List Byte} (h : off + n ≤ bytes.length) (hmax : bytes.length ≤ 20)
    (buf : RxBuf) : field n (fill bytes buf).toList off = field n bytes off := by
  ext i hi : 1
  simp [field, fill, show off + i < 20 by omega, show off + i < bytes.length by omega]

/-- `s` once it has read `bytes` of its response, with `rest` on offer. -/
def reading (s : State) (bytes : List Byte) (rest : List Input) : State :=
  { s with rxBuf := fill bytes s.rxBuf, rxCnt := BitVec.ofNat 5 bytes.length, inputs := rest }

theorem reading_nil {s : State} {rest : List Input} (hcnt : s.rxCnt = 0) (hinputs : s.inputs = rest) :
    reading s [] rest = s := by
  have hzero : BitVec.ofNat 5 ([] : List Byte).length = s.rxCnt := hcnt.symm
  rw [reading, fill_nil, hzero, ← hinputs]

theorem toNat_rxCnt_reading (s : State) {bytes : List Byte} (rest : List Input) (h : bytes.length < 32) :
    (reading s bytes rest).rxCnt.toNat = bytes.length := by
  rw [reading, BitVec.toNat_ofNat, Nat.mod_eq_of_lt h]

theorem rxCnt_reading (s : State) {bytes : List Byte} (rest : List Input) {n : BitVec 5}
    (h : bytes.length = n.toNat) : (reading s bytes rest).rxCnt = n :=
  BitVec.eq_of_toNat_eq ((toNat_rxCnt_reading s rest (h ▸ n.isLt)).trans h)

theorem rxCnt_reading_add_one_ne (s : State) {bytes : List Byte} (rest : List Input) {n : BitVec 5}
    (h : bytes.length < 20) (hn : bytes.length + 1 ≠ n.toNat) : (reading s bytes rest).rxCnt + 1 ≠ n := by
  have hcnt := toNat_rxCnt_reading s rest (show bytes.length < 32 by omega)
  bv_omega

theorem storeByte_reading (b : Byte) (s : State) {bytes : List Byte} (rest : List Input) (h : bytes.length < 20) :
    storeByte b (reading s bytes rest) = reading s (bytes ++ [b]) rest := by
  rw [storeByte, toNat_rxCnt_reading s rest (by omega)]
  simp only [reading, setIfInBounds_fill, List.length_append, List.length_singleton, BitVec.ofNat_add]
  rfl

/-- R211: the first three bytes of a response that passes the header check. -/
def responseHeader (s : State) : List Byte := enc16 s.lastSeq ++ [expectedType s]

/-- R210: the number of bytes of the response that is awaited. -/
def responseLength (s : State) : Nat := if s.hsState = .awaitNsAck then 11 else 20

theorem expectedType_ne_seven (s : State) : expectedType s ≠ 0x07 := by
  unfold expectedType
  split <;> decide

/-- R211: a header check whose three bytes are right passes. -/
theorem headerCheck_correct {expected : Byte} {s : State} (hecho : be16 s.rxBuf[0] s.rxBuf[1] = s.lastSeq)
    (htype : s.rxBuf[2] = expected) (hseven : expected ≠ 0x07) : headerCheck expected s = s := by
  rw [headerCheck, if_neg (not_not.mpr hecho), if_neg fun h => hseven (htype.symm.trans h.2),
    if_neg (not_not.mpr htype)]

/-- R211: the number that a response echoes is read from its first two bytes. -/
theorem echo_reading (s : State) (n : Sys2Proof.Seq) (tail : List Byte) (rest : List Input) :
    be16 (reading s (enc16 n ++ tail) rest).rxBuf[0] (reading s (enc16 n ++ tail) rest).rxBuf[1] = n := by
  have hhigh : (reading s (enc16 n ++ tail) rest).rxBuf[0] = hi8 n := getElem_fill (by simp) (by decide) _
  have hlow : (reading s (enc16 n ++ tail) rest).rxBuf[1] = lo8 n := getElem_fill (by simp; omega) (by decide) _
  rw [hhigh, hlow, be16_enc16]

theorem headerCheck_reading (s : State) (b : Byte) (rest : List Input) :
    headerCheck (expectedType s) (reading s (responseHeader s ++ [b]) rest) =
      reading s (responseHeader s ++ [b]) rest :=
  headerCheck_correct (echo_reading s s.lastSeq [expectedType s, b] rest)
    (getElem_fill (bytes := responseHeader s ++ [b]) (i := 2) (by simp [responseHeader]) (by decide) s.rxBuf)
    (expectedType_ne_seven s)

/-- R210: a byte that does not complete its response is added to those read, the header being right. -/
theorem acceptByte_reading (b : Byte) {s : State} {bytes : List Byte} (rest : List Input)
    (hlen : bytes.length + 1 < responseLength s) (hheader : bytes.length = 3 → bytes = responseHeader s) :
    acceptByte b (reading s bytes rest) = reading s (bytes ++ [b]) rest := by
  have hmax : responseLength s ≤ 20 := by unfold responseLength; split <;> decide
  rw [← storeByte_reading b s rest (by omega)]
  by_cases hthree : bytes.length = 3
  · have htype : (if (reading s bytes rest).hsState = .awaitNsAck then typeAckNewSession else typeAckSecureSession) =
        expectedType s := rfl
    rw [acceptByte_header b _ (rxCnt_reading s rest hthree), htype, storeByte_reading b s rest (by omega),
      hheader hthree, headerCheck_reading s b rest]
  · refine acceptByte_store b _ ?header (fun hns => ?exchange1) fun _ => ?exchange2
    case header => exact rxCnt_reading_add_one_ne s rest (by omega) (show bytes.length + 1 ≠ 4 by omega)
    case exchange1 =>
      have heleven : responseLength s = 11 := if_pos hns
      exact rxCnt_reading_add_one_ne s rest (by omega) (show bytes.length + 1 ≠ 11 by omega)
    case exchange2 => exact rxCnt_reading_add_one_ne s rest (by omega) (show bytes.length + 1 ≠ 20 by omega)

/-- R209: an awaiting core serves an RX byte at the head of the offers. -/
theorem step_rxByte {s : State} {b : Byte} {rest : List Input}
    (hs : s.hsState = .awaitNsAck ∨ s.hsState = .awaitSsAck) (hinputs : s.inputs = .rxByte b :: rest) :
    step s = .next (acceptByte b { s with inputs := rest }) := by
  have hnext : nextInput s = some (.rxByte b, { s with inputs := rest }) := by
    simp [nextInput, hinputs, takeFirst, enabled, (awaiting_iff s).mpr hs, servedRequester]
  simp only [step, hnext, decode]
  exact exec_rxByte_awaiting b hs

theorem step_reading {s : State} (hs : s.hsState = .awaitNsAck ∨ s.hsState = .awaitSsAck) (bytes : List Byte)
    (b : Byte) (rest : List Input) :
    step (reading s bytes (.rxByte b :: rest)) = .next (acceptByte b (reading s bytes rest)) :=
  step_rxByte (s := reading s bytes (.rxByte b :: rest)) (rest := rest) hs rfl

/-- The run over a part of a response that does not complete it. -/
theorem run_reading {s : State} (hs : s.hsState = .awaitNsAck ∨ s.hsState = .awaitSsAck) (more bytes : List Byte)
    (rest : List Input) (hlen : (bytes ++ more).length < responseLength s)
    (hheader : responseHeader s <+: bytes ++ more) :
    Host.Core.run Sys2Proof.core more.length (reading s bytes (more.map .rxByte ++ rest)) =
      .next (reading s (bytes ++ more) rest) := by
  induction more generalizing bytes with
  | nil => rw [List.append_nil]; rfl
  | cons b more ih =>
    have hassoc : bytes ++ b :: more = bytes ++ [b] ++ more := by simp
    have hthree : bytes.length = 3 → bytes = responseHeader s := fun h =>
      (List.prefix_of_prefix_length_le (List.prefix_append bytes (b :: more)) hheader h.le).eq_of_length h
    have hstep := step_reading hs bytes b (more.map .rxByte ++ rest)
    rw [acceptByte_reading b _ (by simp at hlen; omega) hthree] at hstep
    rw [hassoc] at hlen hheader ⊢
    rw [← ih (bytes ++ [b]) hlen hheader]
    exact run_step more.length hstep

/-- The run over a whole response ends with the acceptance of its last byte. -/
theorem run_response {s : State} (hs : s.hsState = .awaitNsAck ∨ s.hsState = .awaitSsAck) (hcnt : s.rxCnt = 0)
    {bytes : List Byte} {rest : List Input} (hlen : bytes.length = responseLength s)
    (hheader : responseHeader s <+: bytes) (hinputs : s.inputs = bytes.map .rxByte ++ rest) :
    ∃ front b, bytes = front ++ [b] ∧
      Host.Core.run Sys2Proof.core bytes.length s = .next (acceptByte b (reading s front rest)) := by
  have hlong : 3 < responseLength s := by unfold responseLength; split <;> decide
  obtain ⟨front, b, rfl⟩ : ∃ front b, bytes = front ++ [b] :=
    ⟨_, _, (List.dropLast_append_getLast (List.ne_nil_of_length_pos (by omega))).symm⟩
  have hcount : (front ++ [b]).length = front.length + 1 := List.length_append
  have hprefix : responseHeader s <+: front :=
    List.prefix_of_prefix_length_le hheader (List.prefix_append front [b]) (show 3 ≤ front.length by omega)
  have hoffers : s.inputs = front.map .rxByte ++ .rxByte b :: rest := by simp [hinputs]
  have hread := run_reading hs front [] (.rxByte b :: rest) (show front.length < _ by omega) hprefix
  rw [reading_nil hcnt hoffers] at hread
  rw [hcount]
  exact ⟨front, b, rfl, (run_add 1 hread).trans (run_step 0 (step_reading hs front b rest))⟩

/-- R213: the last byte of the exchange-1 response. -/
theorem acceptByte_reading_exchange1 (b : Byte) {s : State} {front : List Byte} (rest : List Input)
    (hs : s.hsState = .awaitNsAck) (hlen : (front ++ [b]).length = 11) :
    acceptByte b (reading s front rest) = completeExchange1 (reading s (front ++ [b]) rest) := by
  have hten : front.length = 10 := by simpa using hlen
  rw [acceptByte_exchange1 b (reading s front rest) hs (rxCnt_reading s rest hten),
    storeByte_reading b s rest (by omega)]

/-- R216: the last byte of the exchange-2 response. -/
theorem acceptByte_reading_exchange2 (b : Byte) {s : State} {front : List Byte} (rest : List Input)
    (hs : s.hsState = .awaitSsAck) (hlen : (front ++ [b]).length = 20) :
    acceptByte b (reading s front rest) = completeExchange2 (reading s (front ++ [b]) rest) := by
  have hnineteen : front.length = 19 := by simpa using hlen
  rw [acceptByte_exchange2 b (reading s front rest) hs (rxCnt_reading s rest hnineteen),
    storeByte_reading b s rest (by omega)]

/-- R213, R214: `s` once exchange 1 has given the identifier `sid`, with the response in `buf` and `rest` on offer. -/
def exchanged (s : State) (sid : Sid) (buf : RxBuf) (rest : List Input) : State :=
  { s with
    rxBuf := buf, rxCnt := 0, inputs := rest, sid := sid, sidValid := true, sk := kdf s.ltk sid, skValid := true
    hsState := .awaitSsAck, seq := nextSeq s.seq, lastSeq := nextSeq s.seq
    txOut := s.txOut ++
      (frame s.params.padWhenAligned (nextSeq s.seq) 0x03 true (kdf s.ltk sid) sid.toList).map .tx }

/-- R209 to R214: a correct exchange-1 response, from its first byte to the exchange-2 request. -/
theorem run_exchange1Response {s : State} {n : Sys2Proof.Seq} {x d0 d1 : Byte} {sid : Sid} {rest : List Input}
    (hs : s.hsState = .awaitNsAck) (hcnt : s.rxCnt = 0) (hlast : s.lastSeq = n)
    (hinputs : s.inputs = (enc16 n ++ [0x02, x, d0, d1] ++ sid.toList).map .rxByte ++ rest) :
    ∃ buf : RxBuf, Host.Core.run Sys2Proof.core 11 s = .next (exchanged s sid buf rest) := by
  subst hlast
  have htype : expectedType s = 0x02 := if_pos hs
  have hlength : responseLength s = 11 := if_pos hs
  have heleven : (enc16 s.lastSeq ++ [0x02, x, d0, d1] ++ sid.toList).length = 11 := by simp
  have hheader : responseHeader s <+: enc16 s.lastSeq ++ [0x02, x, d0, d1] ++ sid.toList :=
    ⟨[x, d0, d1] ++ sid.toList, by simp [responseHeader, htype]⟩
  have hsid : field 5 (enc16 s.lastSeq ++ [0x02, x, d0, d1] ++ sid.toList) 6 = sid := by
    simpa using field_append_right 5 (enc16 s.lastSeq ++ [0x02, x, d0, d1]) sid.toList 0
  obtain ⟨front, b, hsplit, hrun⟩ := run_response (.inl hs) hcnt (heleven.trans hlength.symm) hheader hinputs
  rw [acceptByte_reading_exchange1 b rest hs (hsplit ▸ heleven), ← hsplit, completeExchange1_eq, heleven] at hrun
  simp only [reading, field_fill (n := 5) (off := 6) heleven.ge (by omega), hsid] at hrun
  exact ⟨_, hrun⟩

/-- R216: T4 on a buffer that holds the echoed number and a block that decrypts to SID. -/
theorem completeExchange2_matches {s : State} {c : Block} (hecho : be16 s.rxBuf[0] s.rxBuf[1] = s.lastSeq)
    (hblock : field 16 s.rxBuf.toList 4 = c)
    (hsid : ∀ (i : Nat) (h : i < 5), (chainDec s.sk s.lastSeq c)[i] = s.sid[i]) :
    completeExchange2 s = { s with hsState := .established } := by
  have hfield : field 5 (chainDec s.sk s.lastSeq c).toList 0 = s.sid := by
    ext i hi : 1
    simpa [field, show i < 16 by omega] using hsid i hi
  rcases completeExchange2_cases s with ⟨-, h⟩ | ⟨h, -⟩
  · exact h
  · rw [hecho, hblock] at h
    exact absurd hfield h

/-- R209 to R216: a correct exchange-2 response, from its first byte to ESTABLISHED. -/
theorem run_exchange2Response {s : State} {n : Sys2Proof.Seq} {x : Byte} {c : Block} {rest : List Input}
    (hs : s.hsState = .awaitSsAck) (hcnt : s.rxCnt = 0) (hlast : s.lastSeq = n)
    (hsid : ∀ (i : Nat) (h : i < 5), (chainDec s.sk n c)[i] = s.sid[i])
    (hinputs : s.inputs = (enc16 n ++ [0x04, x] ++ c.toList).map .rxByte ++ rest) :
    ∃ buf : RxBuf, Host.Core.run Sys2Proof.core 20 s = .next
      { s with rxBuf := buf, rxCnt := 20, inputs := rest, hsState := .established } := by
  subst hlast
  have htype : expectedType s = 0x04 := if_neg (by simp [hs])
  have hlength : responseLength s = 20 := if_neg (by simp [hs])
  have htwenty : (enc16 s.lastSeq ++ [0x04, x] ++ c.toList).length = 20 := by simp
  have hheader : responseHeader s <+: enc16 s.lastSeq ++ [0x04, x] ++ c.toList :=
    ⟨[x] ++ c.toList, by simp [responseHeader, htype]⟩
  have hblock : field 16 (enc16 s.lastSeq ++ [0x04, x] ++ c.toList) 4 = c := by
    simpa using field_append_right 16 (enc16 s.lastSeq ++ [0x04, x]) c.toList 0
  obtain ⟨front, b, hsplit, hrun⟩ := run_response (.inr hs) hcnt (htwenty.trans hlength.symm) hheader hinputs
  have hecho := echo_reading s s.lastSeq ([0x04, x] ++ c.toList) rest
  rw [← List.append_assoc] at hecho
  rw [acceptByte_reading_exchange2 b rest hs (hsplit ▸ htwenty), ← hsplit, htwenty,
    completeExchange2_matches hecho ((field_fill htwenty.ge htwenty.le s.rxBuf).trans hblock) hsid, reading,
    htwenty] at hrun
  exact ⟨_, hrun⟩

/-- R206: the state once HS_START is served for requester `rq`, with `rest` on offer. -/
def started (s : State) (rq : Nat) (rest : List Input) : State :=
  { s with
    seq := nextSeq s.seq, lastSeq := nextSeq s.seq, rxCnt := 0, hsState := .awaitNsAck
    txOut := s.txOut ++ (enc16 (nextSeq s.seq) ++ [0x01, 0x00]).map .tx
    responses := s.responses ++ [⟨rq, [0x00, 0x00]⟩], inputs := rest, requester := rq }

/-- R205, R206: HS_START at the head of the offers. -/
theorem step_hsStart {s : State} {rq : Nat} {rest : List Input}
    (h : s.hsState = .disconnected ∧ s.tOpen = true ∧ s.ltkValid = true)
    (hinputs : s.inputs = .cmd rq [0x03, 0x00] :: rest) :
    step s = .next (started s rq rest) := by
  have hexec := exec_hsStart_legal (s := { s with inputs := rest, requester := rq }) h
  rw [startHandshake_eq] at hexec
  simp only [step, nextInput_cmd hinputs, decode, decodeFrame_bare hsStart_fixedLength]
  exact hexec

/-- The ciphertext block of a packet whose payload is a session identifier does not depend on the packet's type. -/
theorem field_chainEnc_sid (pad : Bool) (k : Key) (n : Sys2Proof.Seq) (t : Byte) (sid : Sid) :
    field 16 (chainEnc pad k (packetHeader n t ++ sid.toList)) 4 =
      aesEnc k (whiten (hi8 n) (lo8 n) (field 16 sid.toList 0)) := by
  rw [chainEnc_shortPacket pad k n t (by simp) (by simp)]
  simpa using field_append_right 16 (packetHeader n t)
    (aesEnc k (whiten (hi8 n) (lo8 n) (field 16 sid.toList 0))).toList 0

/-- R216: that block confirms the session identifier. -/
theorem chainDec_field_chainEnc_sid (pad : Bool) (k : Key) (n : Sys2Proof.Seq) (t : Byte) (sid : Sid) {i : Nat}
    (hi : i < 5) :
    (chainDec k n (field 16 (chainEnc pad k (packetHeader n t ++ sid.toList)) 4))[i] = sid[i] := by
  have hdec := chainDec_aesEnc_whiten k (hi8 n) (lo8 n) (field 16 sid.toList 0)
  rw [be16_enc16] at hdec
  rw [field_chainEnc_sid, hdec]
  simp [field, hi]

/-- R223: the whole run, with `offers1` on offer after HS_START and `offers2` after the exchange-1 response. -/
theorem run_handshake {s : State} {rq : Nat} {sid : Sid} {x x' d0 d1 : Byte} {c : Block}
    {offers1 offers2 rest : List Input} (h : s.hsState = .disconnected ∧ s.tOpen = true ∧ s.ltkValid = true)
    (hsid : ∀ (i : Nat) (hi : i < 5), (chainDec (kdf s.ltk sid) (nextSeq (nextSeq s.seq)) c)[i] = sid[i])
    (hinputs : s.inputs = .cmd rq [0x03, 0x00] :: offers1)
    (hfirst : offers1 = (enc16 (nextSeq s.seq) ++ [0x02, x, d0, d1] ++ sid.toList).map .rxByte ++ offers2)
    (hsecond : offers2 = (enc16 (nextSeq (nextSeq s.seq)) ++ [0x04, x'] ++ c.toList).map .rxByte ++ rest) :
    ∃ buf1 buf2 : RxBuf, Host.Core.run Sys2Proof.core 32 s = .next
      { exchanged (started s rq offers1) sid buf1 offers2 with
        rxBuf := buf2, rxCnt := 20, inputs := rest, hsState := .established } := by
  obtain ⟨buf1, hrun1⟩ := run_exchange1Response (s := started s rq offers1) (n := nextSeq s.seq) rfl rfl rfl hfirst
  obtain ⟨buf2, hrun2⟩ :=
    run_exchange2Response (s := exchanged (started s rq offers1) sid buf1 offers2) (n := nextSeq (nextSeq s.seq))
      rfl rfl rfl hsid hsecond
  exact ⟨buf1, buf2, (run_step 31 (step_hsStart h hinputs)).trans ((run_add 20 hrun1).trans hrun2)⟩

/-- Settles O59: HS_START, the 11 bytes of the exchange-1 response and the 20 bytes of the exchange-2 response lead to
ESTABLISHED, and the block that the controller's own packet carries decrypts to the session identifier. -/
theorem successfulHandshake : Obligations.SuccessfulHandshake := by
  constructor
  · rintro s rq sid x x' d0 d1 c rest s1 s2 sk hs hopen hkey rfl rfl rfl hsid hinputs
    obtain ⟨buf1, buf2, hrun⟩ := run_handshake ⟨hs, hopen, hkey⟩ hsid hinputs rfl rfl
    exact ⟨_, hrun, rfl, rfl, rfl, rfl, rfl, rfl, rfl, rfl⟩
  · rintro pad sk sid s2 c rfl
    refine ⟨fun _ => chainDec_field_chainEnc_sid pad sk s2 0x04 sid, ?_⟩
    rw [frame_chained pad s2 sk sid.toList rfl, field_chainEnc_sid]
    exact field_chainEnc_sid pad sk s2 0x04 sid

end Sys2Proof.Proofs.SuccessfulHandshake
end

section
/-! The reserved opcodes (spec/30_encoding.md R95, spec/46_control.md R254): the twelve rows are intervals of the opcode
byte that fill the reserved values, and the instructions of all twelve have one effect. -/

namespace Sys2Proof.Proofs.ReservedOpcodes
open Sys2Proof Sys2Proof.Machine Sys2Proof.Proofs.CommandFrames

/-- R95: a mask that drops the low `k` bits rounds down to a multiple of `2 ^ k`. -/
theorem toNat_and_highMask (opc : Byte) (k : Nat) :
    (opc &&& BitVec.allOnes 8 <<< k).toNat = opc.toNat / 2 ^ k * 2 ^ k := by
  have hle : opc.toNat / 2 ^ k * 2 ^ k ≤ opc.toNat := Nat.div_mul_le_self _ _
  rw [← BitVec.shiftLeft_ushiftRight, BitVec.toNat_shiftLeft, BitVec.toNat_ushiftRight, Nat.shiftLeft_eq,
    Nat.shiftRight_eq_div_pow, Nat.mod_eq_of_lt (hle.trans_lt opc.isLt)]

/-- R95: a row whose mask drops the low `k` bits is the interval of the `2 ^ k` opcodes from its match. -/
theorem and_highMask_eq_iff (opc : Byte) (k n : Nat) (hn : n * 2 ^ k < 256) :
    opc &&& BitVec.allOnes 8 <<< k = BitVec.ofNat 8 (n * 2 ^ k) ↔
      n * 2 ^ k ≤ opc.toNat ∧ opc.toNat < (n + 1) * 2 ^ k := by
  rw [← BitVec.toNat_inj, toNat_and_highMask, BitVec.toNat_ofNat, Nat.mod_eq_of_lt hn,
    Nat.mul_left_inj (Nat.two_pow_pos k).ne', Nat.div_eq_iff (Nat.two_pow_pos k), Nat.succ_mul]
  have hpos := Nat.two_pow_pos k
  omega

/-- R95: the twelve rows fill the reserved values and no others. -/
theorem decodeReserved_eq_none_iff (opc len : Byte) (ops : List Byte) :
    decodeReserved opc len ops = none ↔ ¬ ReservedOpcode opc := by
  have row08 : opc &&& 0xF8 = 0x08 ↔ _ := and_highMask_eq_iff opc 3 0x01 (by decide)
  have row16 : opc &&& 0xFE = 0x16 ↔ _ := and_highMask_eq_iff opc 1 0x0B (by decide)
  have row18 : opc &&& 0xF8 = 0x18 ↔ _ := and_highMask_eq_iff opc 3 0x03 (by decide)
  have row22 : opc &&& 0xFE = 0x22 ↔ _ := and_highMask_eq_iff opc 1 0x11 (by decide)
  have row24 : opc &&& 0xFC = 0x24 ↔ _ := and_highMask_eq_iff opc 2 0x09 (by decide)
  have row28 : opc &&& 0xF8 = 0x28 ↔ _ := and_highMask_eq_iff opc 3 0x05 (by decide)
  have row30 : opc &&& 0xF0 = 0x30 ↔ _ := and_highMask_eq_iff opc 4 0x03 (by decide)
  have row40 : opc &&& 0xC0 = 0x40 ↔ _ := and_highMask_eq_iff opc 6 0x01 (by decide)
  have row80 : opc &&& 0x80 = 0x80 ↔ _ := and_highMask_eq_iff opc 7 0x01 (by decide)
  simp only [decodeReserved, ite_eq_iff, reduceCtorEq, and_false, false_or, and_true, row08, row16, row18, row22, row24,
    row28, row30, row40, row80, ReservedOpcode, BitVec.le_def, ← BitVec.toNat_inj, BitVec.reduceToNat]
  omega

/-- R254: the answer of a reserved opcode, and its only effect. -/
theorem illegalCommand_eq (s : State) : illegalCommand s = .next (answered [0x03, 0x00] s) := rfl

/-- R254: the instructions of the twelve reserved rows have one meaning. -/
theorem exec_of_decodeReserved {opc len : Byte} {ops : List Byte} {i : Instr} (h : decodeReserved opc len ops = some i)
    (s : State) : exec i s = illegalCommand s := by
  unfold decodeReserved at h
  iterate 12
    obtain ⟨-, h⟩ | ⟨-, h⟩ := ite_eq_iff.mp h
    · obtain rfl := Option.some.inj h
      rfl
  nomatch h

/-- R96: the frame of a reserved opcode decodes, whatever follows the opcode. -/
theorem decodeFrame_of_reservedOpcode {opc : Byte} (hopc : ReservedOpcode opc) (len : Byte) (ops : List Byte) :
    ∃ i, decodeReserved opc len ops = some i ∧ decodeFrame (opc :: len :: ops) = .ok i := by
  cases hi : decodeReserved opc len ops with
  | none => exact absurd hopc ((decodeReserved_eq_none_iff opc len ops).mp hi)
  | some i => exact ⟨i, rfl, by simp [decodeFrame, hi]⟩

/-- R254: a reserved opcode at the head of the offers, decided before the length checks. -/
theorem step_of_reservedOpcode {s : State} {r : Nat} {opc len : Byte} {ops : List Byte} {rest : List Input}
    (hinputs : s.inputs = .cmd r (opc :: len :: ops) :: rest) (hopc : ReservedOpcode opc) :
    step s = illegalCommand { s with inputs := rest, requester := r } := by
  obtain ⟨i, hi, hd⟩ := decodeFrame_of_reservedOpcode hopc len ops
  simp only [step, nextInput_cmd hinputs, decode, hd]
  exact exec_of_decodeReserved hi _

/-- Settles O6: an opcode alone is too short a frame, and every reserved row's instruction is `illegalCommand`. -/
theorem reservedOpcodesAnswerIllegalCommand : Obligations.ReservedOpcodesAnswerIllegalCommand := by
  refine ⟨fun opc => refusesFrame_of_decodeFrame (e := .tooShort) rfl (by decide), ?_, fun len rest s => ?_⟩
  · intro s r opc len ops rest hinputs hopc
    rw [step_of_reservedOpcode hinputs hopc, illegalCommand_eq]
    rfl
  · have hanswer := illegalCommand_eq s
    exact ⟨hanswer, fun _ => hanswer, hanswer, fun _ => hanswer, fun _ => hanswer, hanswer, fun _ => hanswer,
      fun _ => hanswer, fun _ => hanswer, fun _ => hanswer, fun _ => hanswer, fun _ => hanswer⟩

end Sys2Proof.Proofs.ReservedOpcodes
end

section
/-! The control commands NOP and READ_SK (spec/46_control.md R250, R253): what each answers, where READ_SK is refused,
and the one frame of each. -/

namespace Sys2Proof.Proofs.ControlCommands
open Sys2Proof Sys2Proof.Machine
open Sys2Proof.Proofs.CommandFrames Sys2Proof.Proofs.SequenceCounter Sys2Proof.Proofs.SessionCommands

theorem exec_nop (s : State) : exec .nop s = .next (answered [0x00, 0x00] s) := by
  rw [exec, execNop, respond_ok_nil]

/-- R253: the answer in ESTABLISHED, whose LEN is the 16 bytes of SK and the 5 of SID. -/
theorem exec_readSk_established {s : State} (h : s.hsState = .established) :
    exec .readSk s = .next (answered (0x00 :: 0x15 :: (s.sk.toList ++ s.sid.toList)) s) := by
  have hframe : responseFrame .ok (s.sk.toList ++ s.sid.toList) = 0x00 :: 0x15 :: (s.sk.toList ++ s.sid.toList) := by
    simp [responseFrame, statusCode, enc8]
  rw [exec, execReadSk, if_pos h, respond, hframe, answered]

theorem exec_readSk_refused {s : State} (h : s.hsState ≠ .established) :
    exec .readSk s = .next (answered [0x02, 0x00] s) := by
  rw [exec, execReadSk, if_neg h, cmdError_badState]

/-- R219: a CLOSE in ESTABLISHED ends the session. -/
theorem hsState_of_exec_close {s t : State} (h : s.hsState = .established) (hclose : exec .close s = .next t) :
    t.hsState = .disconnected := by
  rw [exec_close, closeSession_established h] at hclose
  cases hclose
  rfl

/-- R93: the two commands take no operand bytes. -/
theorem nop_fixedLength : FixedLength 0x00 0 fun _ => .nop := fun _ _ => rfl

theorem readSk_fixedLength : FixedLength 0x06 0 fun _ => .readSk := fun _ _ => rfl

/-- Settles O12: NOP only answers, and it has one frame. -/
theorem nopAnswersOk : Obligations.NopAnswersOk :=
  ⟨exec_nop, fun _ => decodeFrame_bare nop_fixedLength, fun _ => refusesFrame_of_ne_bare nop_fixedLength⟩

/-- Settles O15: READ_SK answers by HS_STATE, which a CLOSE leaves at DISCONNECTED, and it has one frame. -/
theorem readSkOnlyWhenEstablished : Obligations.ReadSkOnlyWhenEstablished := by
  refine ⟨fun s => ⟨exec_readSk_established, exec_readSk_refused, fun hs t hclose => ?_⟩,
    fun _ => decodeFrame_bare readSk_fixedLength, fun _ => refusesFrame_of_ne_bare readSk_fixedLength⟩
  have hdisconnected := hsState_of_exec_close hs hclose
  exact ⟨hdisconnected, exec_readSk_refused (by simp [hdisconnected])⟩

end Sys2Proof.Proofs.ControlCommands
end

section
/-! Command errors (spec/60_exceptions.md R271): every command either answers OK, or raises `CmdError`, whose 2-byte
response is its only effect. -/

namespace Sys2Proof.Proofs.CommandErrors
open Sys2Proof Sys2Proof.Machine
open Sys2Proof.Proofs.CommandFrames Sys2Proof.Proofs.DecodedFrames

/-- R91, R271: what a command can do: it answers OK to its requester, after updates that give no response of their own,
or it raises `CmdError`. -/
inductive CommandEffect (s : State) : State → Prop
  | accepted (data : List Byte) (s' : State) (hresponses : s'.responses = s.responses)
      (hrequester : s'.requester = s.requester) : CommandEffect s (respond .ok data s')
  | refused (st : Status) (hst : st ≠ .ok) : CommandEffect s (cmdError st s)

/-- R219: CLOSE gives no response before its answer. -/
theorem responses_of_closeEffect {s s' : State} (h : CloseEffect s s') :
    s'.responses = s.responses ∧ s'.requester = s.requester := by
  cases h with
  | aborted | ended | nothing => exact ⟨rfl, rfl⟩
  | closed => simp [closeTransport_eq]

/-- R271: a command with a state check is accepted where the check holds, and raises BAD_STATE where it does not. -/
theorem commandEffect_of_stateCheck {legal : Prop} [Decidable legal] {data : List Byte} {s s' t : State}
    (hresponses : s'.responses = s.responses) (hrequester : s'.requester = s.requester)
    (h : (if legal then .next (respond .ok data s') else .next (cmdError .badState s) :
      Host.Outcome State Fault Refusal) = .next t) : CommandEffect s t := by
  split at h
  · cases h
    exact .accepted data s' hresponses hrequester
  · cases h
    exact .refused .badState (by decide)

/-- R95, R254: a reserved opcode raises ILLEGAL_COMMAND. -/
theorem commandEffect_of_illegalCommand {s t : State} (h : illegalCommand s = .next t) : CommandEffect s t := by
  cases h
  exact .refused .illegalCommand (by decide)

/-- R271: the commands are the instructions with a row of the opcode table. -/
theorem commandEffect_of_exec {i : Instr} {s t : State} (hrow : opcodeRow i ≠ none) (h : exec i s = .next t) :
    CommandEffect s t := by
  cases i with
  | nop | readStatus | kdf | chainEnc | chainDec | frame =>
    cases h
    exact .accepted _ s rfl rfl
  | seqNext =>
    cases h
    exact .accepted _ (seqNext s) rfl rfl
  | close =>
    cases h
    obtain ⟨hresponses, hrequester⟩ := responses_of_closeEffect (closeSession_effect s)
    exact .accepted [] (closeSession s) hresponses hrequester
  | loadLtk l => exact commandEffect_of_stateCheck (s' := { s with ltk := l, ltkValid := true }) rfl rfl h
  | newSession => exact commandEffect_of_stateCheck (s' := emptySession s) rfl rfl h
  | hsStart => exact commandEffect_of_stateCheck (s' := startHandshake s) rfl rfl h
  | readSk => exact commandEffect_of_stateCheck (s' := s) rfl rfl h
  | send => exact commandEffect_of_stateCheck (s' := emitTx _ (seqNext s)) rfl rfl h
  | reserved07 | reserved08 | reserved15 | reserved16 | reserved18 | reserved21 | reserved22 | reserved24 | reserved28
  | reserved30 | reserved40 | reserved80 => exact commandEffect_of_illegalCommand h
  | rxByte | tErr | reset => exact absurd rfl hrow

/-- R95: no row of the opcode table, reserved or not, decodes to an event. -/
theorem decodeReserved_ne_event {i : Instr} (hi : opcodeRow i = none) (opc len : Byte) (ops : List Byte) :
    decodeReserved opc len ops ≠ some i := by
  cases i with
  | rxByte | tErr | reset => simp [decodeReserved, ite_eq_iff]
  | _ => nomatch hi

theorem decodeOperands_ne_event {i : Instr} (hi : opcodeRow i = none) (opc : Byte) (ops : List Byte) :
    decodeOperands opc ops ≠ .ok i := by
  cases i with
  | rxByte | tErr | reset => simp [decodeOperands, ifLegal, ite_eq_iff]
  | _ => nomatch hi

/-- R102: an event has a port of its own, and no frame. -/
theorem decodeFrame_ne_event {i : Instr} (hi : opcodeRow i = none) (bytes : List Byte) : decodeFrame bytes ≠ .ok i := by
  unfold decodeFrame
  split
  · next opc len ops =>
    split
    · next j hj => exact fun h => decodeReserved_ne_event hi opc len ops (Except.ok.inj h ▸ hj)
    · split
      · exact decodeOperands_ne_event hi opc ops
      · simp
  · simp

/-- R255, R271: a command at the head of the offers, whether its frame decodes or is malformed. -/
theorem commandEffect_of_step {s t : State} {r : Nat} {bytes : List Byte} {rest : List Input}
    (hinputs : s.inputs = .cmd r bytes :: rest) (h : step s = .next t) :
    CommandEffect { s with inputs := rest, requester := r } t := by
  cases hd : decodeFrame bytes with
  | ok i =>
    simp only [step, nextInput_cmd hinputs, decode, hd] at h
    exact commandEffect_of_exec (fun hi => decodeFrame_ne_event hi bytes hd) h
  | error e =>
    simp only [step, nextInput_cmd hinputs, decode, hd] at h
    rw [rejectInput_of_ne fun he => decodeFrame_ne_errPortKind3 bytes (he ▸ hd)] at h
    cases h
    exact .refused .invalidInput (by decide)

/-- R92: the first byte of the response that `respond` adds is its status. -/
theorem statusCode_of_responses {st : Status} {given data : List Byte} {b : Byte} {s s' : State} {r : Nat}
    (hresponses : s'.responses = s.responses)
    (h : (respond st given s').responses = s.responses ++ [⟨r, b :: data⟩]) : statusCode st = b := by
  rw [respond_responses, hresponses, List.append_cancel_left_eq, List.singleton_inj] at h
  injection h with _ hbytes
  exact (List.cons.inj hbytes).1

/-- Settles O52: a command that does not raise `CmdError` answers OK, so a response with another status is that of
`CmdError`, which writes nothing else. -/
theorem refusedCommandsChangeNothing : Obligations.RefusedCommandsChangeNothing := by
  intro s t r bytes rest st data hinputs hstep hresponse hst
  cases commandEffect_of_step hinputs hstep with
  | accepted okData s' hresponses hrequester =>
    have hok := statusCode_of_responses hresponses hresponse
    exact absurd hok.symm hst
  | refused st' hst' =>
    obtain rfl := statusCode_of_responses rfl hresponse
    rfl

end Sys2Proof.Proofs.CommandErrors
end

section
/-! Reset (spec/70_reset_and_hazards.md R300, R303): the one state it leads to, and what the first command after it is
answered. -/

namespace Sys2Proof.Proofs.Reset
open Sys2Proof Sys2Proof.Machine
open Sys2Proof.Proofs.SequenceCounter Sys2Proof.Proofs.SessionCommands Sys2Proof.Proofs.ControlCommands

/-- R300: the reset state, register by register; every field not named here is kept. -/
theorem resetRegisters_eq (s : State) :
    resetRegisters s =
      { s with
        ltk := Vector.replicate 16 0, ltkValid := false, sid := Vector.replicate 5 0, sidValid := false
        sk := Vector.replicate 16 0, skValid := false, seq := 0, lastSeq := 0, hsState := .disconnected, err := .none
        tOpen := false, rxBuf := Vector.replicate 20 0, rxCnt := 0 } := rfl

theorem exec_reset (s : State) : exec .reset s = .next (resetRegisters s) := rfl

/-- R300: Reset can lead to one state only. -/
theorem eq_resetRegisters_of_exec_reset {s t : State} (h : exec .reset s = .next t) : t = resetRegisters s := by
  rw [exec_reset] at h
  cases h
  rfl

/-- Settles O42: the state after Reset is `resetRegisters`, whose fields are the reset values and the old outputs. -/
theorem resetWritesEveryRegister : Obligations.ResetWritesEveryRegister :=
  ⟨fun s => resetRegisters_eq s ▸ exec_reset s, fun _ => rfl⟩

/-- R252: READ_STATUS answers the status view, whose 8 bytes RLEN counts, in every state. -/
theorem exec_readStatus (s : State) : exec .readStatus s = .next (answered (0x00 :: 0x08 :: statusView s) s) := rfl

/-- R36: the status view reads registers only, so it is the same after every Reset. -/
theorem statusView_resetRegisters (s : State) : statusView (resetRegisters s) = statusView State.reset := by
  simp [statusView, flagsByte]

theorem statusView_reset : statusView State.reset = [0x00, 0x00, 0x00, 0x00, 0x00, 0x00, 0x00, 0x00] := by decide

theorem exec_readStatus_resetRegisters (s : State) :
    exec .readStatus (resetRegisters s) =
      .next (answered [0x00, 0x08, 0x00, 0x00, 0x00, 0x00, 0x00, 0x00, 0x00, 0x00] (resetRegisters s)) := by
  rw [exec_readStatus, statusView_resetRegisters, statusView_reset]

/-- R190: starting fresh, the first number is 1. -/
theorem nextSeq_zero : nextSeq 0 = 1 := by decide

theorem exec_seqNext_resetRegisters (s : State) :
    exec .seqNext (resetRegisters s) =
      .next (answered [0x00, 0x02, 0x00, 0x01] { resetRegisters s with seq := 1 }) := by
  have hfirst : nextSeq (resetRegisters s).seq = 1 := nextSeq_zero
  have hhi : hi8 1 = 0x00 := by decide
  have hlo : lo8 1 = 0x01 := by decide
  rw [exec_seqNext, hfirst, hhi, hlo]

/-- R253: after Reset there is no session whose key could be read. -/
theorem exec_readSk_resetRegisters (s : State) :
    exec .readSk (resetRegisters s) = .next (answered [0x02, 0x00] (resetRegisters s)) := by
  have hdisconnected : (resetRegisters s).hsState = .disconnected := rfl
  exact exec_readSk_refused (by rw [hdisconnected]; decide)

/-- R205: after Reset no transport is open. -/
theorem exec_hsStart_resetRegisters (s : State) :
    exec .hsStart (resetRegisters s) = .next (answered [0x02, 0x00] (resetRegisters s)) := by
  have hclosed : (resetRegisters s).tOpen = false := rfl
  exact exec_hsStart_refused fun ⟨_, hopen, _⟩ => Bool.false_ne_true (hclosed.symm.trans hopen)

/-- Settles O44: each of the four commands, on the one state that Reset leads to. -/
theorem answersAfterReset : Obligations.AnswersAfterReset := by
  intro s t hreset
  obtain rfl := eq_resetRegisters_of_exec_reset hreset
  exact ⟨exec_readStatus_resetRegisters s, exec_seqNext_resetRegisters s, exec_readSk_resetRegisters s,
    exec_hsStart_resetRegisters s⟩

end Sys2Proof.Proofs.Reset
end

section
/-! A step and the input it serves (spec/00_scope.md R12): which input that is, everything a step can do, and what every
step keeps. -/

namespace Sys2Proof.Proofs.Steps
open Sys2Proof Sys2Proof.Machine Sys2Proof.Proofs.DecodedFrames Sys2Proof.Proofs.CommandFrames
open Sys2Proof.Proofs.CommandErrors

/-- The state in which `input` is served, `others` being left on offer. -/
def serving (s : State) (others : List Input) (input : Input) : State :=
  { s with inputs := others, requester := servedRequester s.requester input }

theorem nextInput_of_enabled {s : State} {before after : List Input} {input : Input}
    (hinputs : s.inputs = before ++ input :: after) (hbefore : ∀ x ∈ before, enabled s x = false)
    (henabled : enabled s input = true) :
    nextInput s = some (input, serving s (before ++ after) input) := by
  rw [nextInput, hinputs, takeFirst_append henabled hbefore]
  rfl

theorem nextInput_eq_none_iff (s : State) : nextInput s = none ↔ ∀ x ∈ s.inputs, enabled s x = false := by
  rw [nextInput, Option.map_eq_none_iff, takeFirst_none]

theorem step_of_decode {s : State} {before after : List Input} {input : Input} {i : Instr}
    (hinputs : s.inputs = before ++ input :: after) (hbefore : ∀ x ∈ before, enabled s x = false)
    (henabled : enabled s input = true) (hd : decode input = .ok i) :
    step s = exec i (serving s (before ++ after) input) := by
  simp only [step, nextInput_of_enabled hinputs hbefore henabled, hd]

theorem step_of_reject {s : State} {before after : List Input} {input : Input} {e : DecodeError}
    (hinputs : s.inputs = before ++ input :: after) (hbefore : ∀ x ∈ before, enabled s x = false)
    (henabled : enabled s input = true) (hd : decode input = .error e) :
    step s = rejectInput e (serving s (before ++ after) input) := by
  simp only [step, nextInput_of_enabled hinputs hbefore henabled, hd]

/-- Settles O9: the first enabled input is the one taken off the offers, and only a command changes the requester. -/
theorem stepRunsDecodedInstruction : Obligations.StepRunsDecodedInstruction := by
  intro s before after input i hinputs hbefore henabled hd
  have hstep := step_of_decode hinputs hbefore henabled hd
  cases input with
  | cmd r bytes => exact ⟨fun _ _ h => by cases h; exact hstep, fun h => absurd rfl (h r bytes)⟩
  | rxByte | tErr | reset => exact ⟨by simp, fun _ => hstep⟩

/-- Settles O10: with no enabled input there is none to serve. -/
theorem stepWaitsWithoutEnabledInput : Obligations.StepWaitsWithoutEnabledInput := by
  intro s h
  rw [step, (nextInput_eq_none_iff s).mpr h]

/-- R12: everything a step can do: wait, have the effect of the instruction served, or refuse the frame served. -/
inductive StepEffect (s : State) : State → Prop
  | waits : StepEffect s s
  | serves (before after : List Input) (input : Input) (i : Instr) (t : State)
      (hinputs : s.inputs = before ++ input :: after) (hbefore : ∀ x ∈ before, enabled s x = false)
      (henabled : enabled s input = true) (hd : decode input = .ok i)
      (he : Effect (serving s (before ++ after) input) i t) : StepEffect s t
  | refuses (before after : List Input) (r : Nat) (bytes : List Byte)
      (hinputs : s.inputs = before ++ .cmd r bytes :: after) (hbefore : ∀ x ∈ before, enabled s x = false) :
      StepEffect s (cmdError .invalidInput (serving s (before ++ after) (.cmd r bytes)))

/-- R102: the kind that is never sent is the only one that is not decoded. -/
theorem decodeErrPort_cases (code : BitVec 2) :
    (∃ k, decodeErrPort code = .ok (.tErr k)) ∨ code = 3 ∧ decodeErrPort code = .error .errPortKind3 := by
  unfold decodeErrPort
  split_ifs with h0 h1 h2
  · exact .inl ⟨_, rfl⟩
  · exact .inl ⟨_, rfl⟩
  · exact .inl ⟨_, rfl⟩
  · exact .inr ⟨by bv_omega, rfl⟩

/-- R96, R102: a rejected input is a frame, or the failure kind that is never sent. -/
theorem input_of_decode_error {input : Input} {e : DecodeError} (hd : decode input = .error e) :
    (∃ r bytes, input = .cmd r bytes) ∧ e ≠ .errPortKind3 ∨ input = .tErr 3 ∧ e = .errPortKind3 := by
  cases input with
  | cmd r bytes => exact .inl ⟨⟨r, bytes, rfl⟩, fun he => decodeFrame_ne_errPortKind3 bytes (he ▸ hd)⟩
  | tErr code =>
    rcases decodeErrPort_cases code with ⟨k, hk⟩ | ⟨rfl, hk⟩
    · cases hk.symm.trans hd
    · cases hk.symm.trans hd
      exact .inr ⟨rfl, rfl⟩
  | rxByte | reset => nomatch hd

theorem step_effect {s t : State} (h : step s = .next t) : StepEffect s t := by
  rcases step_cases s with ⟨-, hstep⟩ | ⟨input, s1, i, hnext, hd, hstep⟩ | ⟨input, s1, e, hnext, hd, hstep⟩
  · cases hstep.symm.trans h
    exact .waits
  · obtain ⟨before, after, hinputs, henabled, hbefore, rfl⟩ := nextInput_some hnext
    exact .serves before after input i t hinputs hbefore henabled hd (exec_effect (hstep.symm.trans h))
  · obtain ⟨before, after, hinputs, henabled, hbefore, rfl⟩ := nextInput_some hnext
    rcases input_of_decode_error hd with ⟨⟨r, bytes, rfl⟩, he⟩ | ⟨rfl, rfl⟩
    · rw [rejectInput_of_ne he] at hstep
      cases hstep.symm.trans h
      exact .refuses before after r bytes hinputs hbefore
    · cases hstep.symm.trans h

/-- A property of the registers that every instruction keeps is kept by every step: serving an input changes only the
offers and the requester, and the answer to a malformed frame is one that an instruction can give too. -/
theorem step_keeps {P : State → Prop} (hserve : ∀ s others input, P s → P (serving s others input))
    (heffect : ∀ s i t, P s → Effect s i t → P t) {s t : State} (hs : P s) (h : step s = .next t) : P t := by
  cases step_effect h with
  | waits => exact hs
  | serves before after input i _ _ _ _ _ he => exact heffect _ i t (hserve s _ input hs) he
  | refuses before after r bytes =>
    exact heffect _ .nop _ (hserve s _ (.cmd r bytes) hs)
      (.answer .nop .invalidInput [] (by simp) (by simp) (by simp))

/-! ### What no instruction writes -/

theorem params_of_closeEffect {s t : State} (h : CloseEffect s t) : t.params = s.params := by
  cases h with
  | closed => rw [closeTransport_eq]
  | aborted | ended | nothing => rfl

/-- R40: the parameters are no register. -/
theorem params_of_effect {s t : State} {i : Instr} (h : Effect s i t) : t.params = s.params := by
  cases h with
  | close s' he => exact (respond_params ..).trans (params_of_closeEffect he)
  | accepted _ _ _ he => cases he <;> rfl
  | hsStart => rw [startHandshake_eq]; rfl
  | answer | loadLtk | newSession | send | seqNext | waits | failed | ignored | reset => rfl

/-- Settles O57: no instruction writes the parameters, so no step does. -/
theorem parametersNeverChange : Obligations.ParametersNeverChange := fun s _ h =>
  step_keeps (P := fun t => t.params = s.params) (fun _ _ _ hs => hs)
    (fun _ _ _ hs he => (params_of_effect he).trans hs) rfl h

theorem inputs_of_closeEffect {s t : State} (h : CloseEffect s t) : t.inputs = s.inputs := by
  cases h with
  | closed => rw [closeTransport_eq]
  | aborted | ended | nothing => rfl

/-- R209: an instruction leaves the offers as they are, but for an RX byte that is not enabled and waits. -/
theorem inputs_of_effect {s t : State} {i : Instr} (h : Effect s i t) :
    t.inputs = s.inputs ∨
      ¬ (s.hsState = .awaitNsAck ∨ s.hsState = .awaitSsAck) ∧
        ∃ b, i = .rxByte b ∧ t.inputs = .rxByte b :: s.inputs := by
  cases h with
  | close s' he => exact .inl ((respond_inputs ..).trans (inputs_of_closeEffect he))
  | accepted _ _ _ he => cases he <;> exact .inl rfl
  | hsStart => rw [startHandshake_eq]; exact .inl rfl
  | waits b ha => exact .inr ⟨ha, b, rfl, rfl⟩
  | answer | loadLtk | newSession | send | seqNext | failed | ignored | reset => exact .inl rfl

/-- R209: only an RX byte is ever not enabled, and only outside the awaiting states. -/
theorem enabled_eq_false_iff (s : State) (x : Input) :
    enabled s x = false ↔ (∃ b, x = .rxByte b) ∧ ¬ (s.hsState = .awaitNsAck ∨ s.hsState = .awaitSsAck) := by
  cases x <;> simp [enabled, ← awaiting_iff]

/-- R102: the port an RX byte comes from. -/
theorem input_of_decode_rxByte {input : Input} {b : Byte} (hd : decode input = .ok (.rxByte b)) :
    input = .rxByte b := by
  cases input with
  | cmd r bytes => exact absurd hd (decodeFrame_ne_event rfl bytes)
  | tErr code => rcases decodeErrPort_cases code with ⟨k, hk⟩ | ⟨-, hk⟩ <;> cases hk.symm.trans hd
  | rxByte => cases hd; rfl
  | reset => nomatch hd

/-! ### The RX bytes on offer -/

theorem rxOffered_append (l m : List Input) : rxOffered (l ++ m) = rxOffered l ++ rxOffered m := by
  induction l with
  | nil => rfl
  | cons x l ih => cases x <;> simp [rxOffered, ih]

theorem rxOffered_cons_of_ne {x : Input} (hx : ∀ b, x ≠ .rxByte b) (l : List Input) :
    rxOffered (x :: l) = rxOffered l := by
  cases x with
  | rxByte b => exact absurd rfl (hx b)
  | cmd | tErr | reset => rfl

/-- Serving another input than an RX byte leaves the RX bytes on offer. -/
theorem rxOffered_remove {x : Input} (hx : ∀ b, x ≠ .rxByte b) (before after : List Input) :
    rxOffered (before ++ after) = rxOffered (before ++ x :: after) := by
  rw [rxOffered_append, rxOffered_append, rxOffered_cons_of_ne hx]

/-- R210: an accepted byte is stored at RX_CNT, whatever else follows from it. -/
theorem rxBuf_of_byteEffect {b : Byte} {s t : State} (h : ByteEffect b s t) :
    t.rxBuf = s.rxBuf.setIfInBounds s.rxCnt.toNat b := by
  cases h <;> rfl

/-- Settles O11: an RX byte is served in an awaiting state only, where no byte before it can have waited; every other
input leaves the RX bytes on offer as they are. -/
theorem rxBytesAreTakenInOrder : Obligations.RxBytesAreTakenInOrder := by
  intro s t h
  cases step_effect h with
  | waits => exact .inl rfl
  | refuses before after r bytes hinputs =>
    exact .inl (by rw [hinputs]; exact rxOffered_remove (by simp) before after)
  | serves before after input i _ hinputs hbefore henabled hd he =>
    by_cases hrx : ∃ b, input = .rxByte b
    · obtain ⟨b, rfl⟩ := hrx
      have ha : s.hsState = .awaitNsAck ∨ s.hsState = .awaitSsAck := (awaiting_iff s).mp henabled
      have hfront : before = [] :=
        List.eq_nil_iff_forall_not_mem.mpr fun x hx => ((enabled_eq_false_iff s x).mp (hbefore x hx)).2 ha
      subst hfront
      cases hd
      cases he with
      | answer _ _ _ hr => exact absurd rfl (hr b)
      | waits _ hwait => exact absurd ha hwait
      | accepted _ _ _ he =>
        refine .inr ⟨ha, b, ?_, (rxBuf_of_byteEffect he).trans rfl⟩
        have hleft : t.inputs = after := by cases he <;> rfl
        rw [hinputs, hleft]
        rfl
    · have hother : ∀ b, input ≠ .rxByte b := fun b hb => hrx ⟨b, hb⟩
      rcases inputs_of_effect he with hsame | ⟨-, b, rfl, -⟩
      · exact .inl (by rw [hsame, hinputs]; exact rxOffered_remove hother before after)
      · exact absurd (input_of_decode_rxByte hd) (hother b)

/-! ### The machine never stops -/

/-- A meaning with a state check leads on whether the check holds or not. -/
theorem ite_next_ne_stop {legal : Prop} [Decidable legal] (s s' : State) :
    ∃ t, (if legal then .next s else .next s' : Host.Outcome State Fault Refusal) = .next t := by
  split
  · exact ⟨s, rfl⟩
  · exact ⟨s', rfl⟩

/-- No instruction's meaning is a stop. -/
theorem exec_ne_stop (i : Instr) (s : State) : ∃ t, exec i s = .next t := by
  cases i with
  | loadLtk | newSession | hsStart | readSk | send | rxByte | tErr => exact ite_next_ne_stop _ _
  | _ => exact ⟨_, rfl⟩

/-- R102: a step stops only at a failure of kind 3, which no agent offers. -/
theorem step_ne_stop {s : State} (hs : InputsLegal s) : ∃ t, step s = .next t := by
  rcases step_cases s with ⟨-, hstep⟩ | ⟨input, s1, i, -, -, hstep⟩ | ⟨input, s1, e, hnext, hd, hstep⟩
  · exact ⟨s, hstep⟩
  · rw [hstep]
    exact exec_ne_stop i s1
  · obtain ⟨before, after, hinputs, -⟩ := nextInput_some hnext
    rcases input_of_decode_error hd with ⟨-, he⟩ | ⟨rfl, -⟩
    · exact ⟨_, hstep.trans (rejectInput_of_ne he s1)⟩
    · exact absurd rfl (hs (.tErr 3) (by simp [hinputs]))

/-- R7: a step takes offers away, and puts back only an RX byte, which any agent may offer. -/
theorem step_keeps_inputsLegal {s t : State} (hs : InputsLegal s) (h : step s = .next t) : InputsLegal t := by
  have hserved {before after : List Input} {input : Input} (hinputs : s.inputs = before ++ input :: after) :
      InputsLegal (serving s (before ++ after) input) := fun x hx => hs x (by
    rw [hinputs]
    exact List.mem_append.mpr ((List.mem_append.mp hx).imp_right (List.mem_cons_of_mem input)))
  cases step_effect h with
  | waits => exact hs
  | refuses before after r bytes hinputs => exact hserved hinputs
  | serves before after input i _ hinputs _ _ _ he =>
    have hlegal := hserved hinputs
    rw [InputsLegal, params_of_effect he]
    rcases inputs_of_effect he with hsame | ⟨-, b, -, hback⟩
    · rwa [hsame]
    · rw [hback]
      exact List.forall_mem_cons.mpr ⟨trivial, hlegal⟩

/-- Settles O56: with legal offers a step leads on, to a state with legal offers. -/
theorem machineNeverStops : Obligations.MachineNeverStops := by
  intro k
  induction k with
  | zero => exact fun s _ => ⟨s, rfl⟩
  | succ k ih =>
    intro s hs
    obtain ⟨t, hstep⟩ := step_ne_stop hs
    obtain ⟨u, hrun⟩ := ih t (step_keeps_inputsLegal hs hstep)
    exact ⟨u, (SuccessfulHandshake.run_step k hstep).trans hrun⟩

end Sys2Proof.Proofs.Steps
end

section
/-! The invariants of the state (spec/10_state.md R38), and the outstanding number (spec/44_sequence_counter.md R191):
every instruction keeps them, so every step does. -/

namespace Sys2Proof.Proofs.Invariants
open Sys2Proof Sys2Proof.Machine Sys2Proof.Proofs.Steps

/-- Settles O48: the reset state is DISCONNECTED with every register 0. -/
theorem invariantsHoldAtReset : Obligations.InvariantsHoldAtReset where
  live := by simp [State.reset]
  keyed := by simp [State.reset]
  valid_iff := by simp [State.reset]
  err_iff := by simp [State.reset]
  failed_closed := by simp [State.reset]
  count_ns := by simp [State.reset]
  count_ss := by simp [State.reset]
  count_est := by simp [State.reset]
  echo := by simp [State.reset]
  count := by simp [State.reset]

/-- The invariants speak of registers only. -/
theorem inv_serving {s : State} (h : Inv s) (others : List Input) (input : Input) : Inv (serving s others input) :=
  { h with }

theorem inv_respond {s : State} (h : Inv s) (st : Status) (data : List Byte) : Inv (respond st data s) := { h with }

theorem inv_offerFirst {s : State} (h : Inv s) (input : Input) : Inv (offerFirst input s) := { h with }

theorem inv_emitTx {s : State} (h : Inv s) (b : List Byte) : Inv (emitTx b s) := { h with }

theorem inv_seqNext {s : State} (h : Inv s) : Inv (seqNext s) := { h with }

/-- R38 in a DISCONNECTED state: no session, so no claim on the keys or the transport. -/
theorem inv_of_disconnected {s : State} (hs : s.hsState = .disconnected) (hvalid : s.skValid = true ↔ s.sidValid = true)
    (herr : s.err = .none) (hcount : s.rxCnt.toNat ≤ 20) : Inv s where
  live := by simp [hs]
  keyed := by simp [hs]
  valid_iff := hvalid
  err_iff := by simp [hs, herr]
  failed_closed := by simp [hs]
  count_ns := by simp [hs]
  count_ss := by simp [hs]
  count_est := by simp [hs]
  echo := by simp [hs]
  count := hcount

/-- R275: a failure records a cause and closes the transport, whatever state it came from. -/
theorem inv_failedBy {code : Err} {s : State} (hcode : code ≠ .none) (hvalid : s.skValid = true ↔ s.sidValid = true)
    (hcount : s.rxCnt.toNat ≤ 20) : Inv (failedBy code s) where
  live := by simp [failedBy]
  keyed := by simp [failedBy]
  valid_iff := hvalid
  err_iff := by simp [failedBy, hcode]
  failed_closed := by simp [failedBy]
  count_ns := by simp [failedBy]
  count_ss := by simp [failedBy]
  count_est := by simp [failedBy]
  echo := by simp [failedBy]
  count := hcount

/-- R38, item 4: a session that has not failed has recorded no cause. -/
theorem err_eq_none {s : State} (h : Inv s) (hs : s.hsState ≠ .failed) : s.err = .none :=
  not_not.mp fun herr => hs (h.err_iff.mp herr)

/-- R251: a new long-term key touches no session. -/
theorem inv_loadLtk {s : State} (h : Inv s) (l : Key) (hs : s.hsState = .disconnected ∨ s.hsState = .failed) :
    Inv { s with ltk := l, ltkValid := true } :=
  { h with
    live := by rcases hs with hs | hs <;> simp [hs]
    keyed := by rcases hs with hs | hs <;> simp [hs] }

/-- R221: an empty session is DISCONNECTED. -/
theorem inv_emptySession (s : State) : Inv (emptySession s) := inv_of_disconnected rfl (by simp) rfl (by simp)

/-- R206: with the transport open and a key loaded, exchange 1 begins with no byte read. -/
theorem inv_startHandshake {s : State} (h : Inv s) (hs : s.hsState = .disconnected) (hopen : s.tOpen = true)
    (hkey : s.ltkValid = true) : Inv (startHandshake s) := by
  rw [startHandshake_eq]
  exact
    { live := fun _ => ⟨hopen, hkey⟩
      keyed := by simp
      valid_iff := h.valid_iff
      err_iff := by simpa using err_eq_none h (by simp [hs])
      failed_closed := by simp
      count_ns := by simp
      count_ss := by simp
      count_est := by simp
      echo := by simp
      count := by simp }

theorem inv_of_closeEffect {s t : State} (h : Inv s) (he : CloseEffect s t) : Inv t := by
  cases he with
  | aborted => exact inv_failedBy (by simp) h.valid_iff h.count
  | ended hs =>
    have herr : s.err = .none := err_eq_none h (by simp [hs])
    exact inv_of_disconnected rfl (by simp) herr h.count
  | closed hs =>
    have herr : s.err = .none := err_eq_none h (by simp [hs])
    rw [closeTransport_eq]
    exact inv_of_disconnected hs h.valid_iff herr h.count
  | nothing => exact h

/-! ### Accepted bytes -/

/-- R33, R210: RX_CNT does not overflow. -/
theorem toNat_rxCnt_storeByte (b : Byte) {s : State} (h : s.rxCnt.toNat ≤ 20) :
    (storeByte b s).rxCnt.toNat = s.rxCnt.toNat + 1 := by
  rw [storeByte_rxCnt]
  bv_omega

/-- R210: a byte that completes no response, with the echo right if it ends the header. -/
theorem inv_storeByte (b : Byte) {s : State} (h : Inv s) (ha : s.hsState = .awaitNsAck ∨ s.hsState = .awaitSsAck)
    (hns : s.hsState = .awaitNsAck → s.rxCnt.toNat ≠ 10) (hss : s.hsState = .awaitSsAck → s.rxCnt.toNat ≠ 19)
    (hecho : s.rxCnt.toNat = 3 → be16 s.rxBuf[0] s.rxBuf[1] = s.lastSeq) : Inv (storeByte b s) := by
  have hnext := toNat_rxCnt_storeByte b h.count
  have hcountNs := h.count_ns
  have hcountSs := h.count_ss
  exact
    { h with
      count_ns := fun hs => by have := hns hs; have := hcountNs hs; omega
      count_ss := fun hs => by have := hss hs; have := hcountSs hs; omega
      count_est := fun hs => by rcases ha with ha | ha <;> nomatch ha.symm.trans hs
      echo := fun _ hfour => by
        rw [storeByte_rxBuf_of_lt b s (by omega) (by omega), storeByte_rxBuf_of_lt b s (by omega) (by omega)]
        rcases Nat.lt_or_ge s.rxCnt.toNat 4 with hlt | hge
        · exact hecho (by omega)
        · exact h.echo ha hge
      count := by
        rcases ha with ha | ha
        · have := hcountNs ha; omega
        · have := hcountSs ha; omega }

/-- R213: T2 derives SK from the SID it writes, and exchange 2 begins with no byte read. -/
theorem inv_completeExchange1 {s : State} (hlive : s.tOpen = true ∧ s.ltkValid = true) (herr : s.err = .none) :
    Inv (completeExchange1 s) := by
  rw [completeExchange1_eq]
  exact
    { live := fun _ => hlive
      keyed := fun _ => ⟨rfl, rfl, rfl⟩
      valid_iff := by simp
      err_iff := by simpa using herr
      failed_closed := by simp
      count_ns := by simp
      count_ss := by simp
      count_est := by simp
      echo := by simp
      count := by simp }

/-- R216: T4 keeps the session that exchange 1 keyed, with all 20 bytes read. -/
theorem inv_established {s : State} (h : Inv s) (b : Byte) (hs : s.hsState = .awaitSsAck) (hcnt : s.rxCnt.toNat = 19) :
    Inv { storeByte b s with hsState := .established } := by
  have hnext : (storeByte b s).rxCnt.toNat = 20 := by rw [toNat_rxCnt_storeByte b h.count, hcnt]
  exact
    { live := fun _ => h.live (.inr (.inl hs))
      keyed := fun _ => h.keyed (.inl hs)
      valid_iff := h.valid_iff
      err_iff := by simpa using err_eq_none h (by simp [hs])
      failed_closed := by simp
      count_ns := by simp
      count_ss := by simp
      count_est := fun _ => hnext
      echo := by simp
      count := hnext.le }

theorem inv_of_byteEffect {b : Byte} {s t : State} (h : Inv s)
    (ha : s.hsState = .awaitNsAck ∨ s.hsState = .awaitSsAck) (he : ByteEffect b s t) : Inv t := by
  have hbound : (storeByte b s).rxCnt.toNat ≤ 20 := by
    rw [toNat_rxCnt_storeByte b h.count]
    rcases ha with hs | hs
    · have := h.count_ns hs; omega
    · have := h.count_ss hs; omega
  cases he with
  | stored h3 h10 h19 =>
    exact inv_storeByte b h ha (fun hs hcnt => h10 hs (BitVec.eq_of_toNat_eq hcnt))
      (fun hs hcnt => h19 hs (BitVec.eq_of_toNat_eq hcnt)) (fun hcnt => absurd (BitVec.eq_of_toNat_eq hcnt) h3)
  | headerPassed h3 hp => exact inv_storeByte b h ha (by simp [h3]) (by simp [h3]) (fun _ => hp.1)
  | headerFailed _ code hf =>
    refine inv_failedBy ?_ h.valid_iff hbound
    rcases HeaderFails_code hf with rfl | rfl | rfl <;> simp
  | exchange1 hs =>
    have herr : s.err = .none := err_eq_none h (by simp [hs])
    exact inv_completeExchange1 (h.live (.inl hs)) herr
  | established hs h19 => exact inv_established h b hs (by simp [h19])
  | mismatch => exact inv_failedBy (by simp) h.valid_iff hbound

theorem inv_of_effect {s t : State} {i : Instr} (h : Inv s) (he : Effect s i t) : Inv t := by
  cases he with
  | answer _ st data => exact inv_respond h st data
  | loadLtk l hs => exact inv_respond (inv_loadLtk h l hs) _ _
  | newSession => exact inv_respond (inv_emptySession s) _ _
  | hsStart hs hopen hkey => exact inv_respond (inv_startHandshake h hs hopen hkey) _ _
  | close _ hc => exact inv_respond (inv_of_closeEffect h hc) _ _
  | send => exact inv_respond (inv_emitTx (inv_seqNext h) _) _ _
  | seqNext => exact inv_respond (inv_seqNext h) _ _
  | accepted b _ ha hb => exact inv_of_byteEffect h ha hb
  | waits => exact inv_offerFirst h _
  | failed => exact inv_failedBy (by simp) h.valid_iff h.count
  | ignored => exact h
  | reset => exact { invariantsHoldAtReset with }

/-- Settles O47: serving an input touches no register, and every instruction's effect keeps the invariants. -/
theorem invariantsAreKept : Obligations.InvariantsAreKept := fun _ _ hs h =>
  step_keeps (fun _ others input hs => inv_serving hs others input) (fun _ _ _ hs he => inv_of_effect hs he) hs h

/-! ### The outstanding number -/

/-- The number of the outstanding request is one that the counter handed out. -/
def Outstanding (s : State) : Prop := s.hsState = .awaitNsAck ∨ s.hsState = .awaitSsAck → s.lastSeq ≠ 0

theorem outstanding_of_not_awaiting {s : State} (h : ¬ (s.hsState = .awaitNsAck ∨ s.hsState = .awaitSsAck)) :
    Outstanding s := fun ha => absurd ha h

theorem outstanding_failedBy (code : Err) (s : State) : Outstanding (failedBy code s) :=
  outstanding_of_not_awaiting (by simp [failedBy])

theorem outstanding_of_closeEffect {s t : State} (he : CloseEffect s t) : Outstanding t := by
  cases he with
  | aborted => exact outstanding_failedBy _ s
  | ended => exact outstanding_of_not_awaiting (by simp)
  | closed hs => exact outstanding_of_not_awaiting (by simp [closeTransport_eq, hs])
  | nothing hs => exact outstanding_of_not_awaiting (by simp [hs])

theorem outstanding_of_byteEffect {b : Byte} {s t : State} (h : Outstanding s) (he : ByteEffect b s t) :
    Outstanding t := by
  cases he with
  | stored | headerPassed => exact h
  | headerFailed | mismatch => exact outstanding_failedBy _ _
  | exchange1 => exact fun _ => SequenceCounter.nextSeq_ne_zero _
  | established => exact outstanding_of_not_awaiting (by simp)

theorem outstanding_of_effect {s t : State} {i : Instr} (h : Outstanding s) (he : Effect s i t) : Outstanding t := by
  cases he with
  | answer | loadLtk | send | seqNext | waits | ignored => exact h
  | hsStart => exact fun _ => SequenceCounter.nextSeq_ne_zero _
  | newSession => exact outstanding_of_not_awaiting (by simp)
  | close s' hc =>
    have hclosed : Outstanding s' := outstanding_of_closeEffect hc
    exact hclosed
  | accepted _ _ _ hb => exact outstanding_of_byteEffect h hb
  | failed => exact outstanding_failedBy _ s
  | reset => exact outstanding_of_not_awaiting (by simp [State.reset])

/-- Settles O58: LAST_SEQ is written by the two requests, from a number that `nextSeq` gives. -/
theorem outstandingNumberIsNeverZero : Obligations.OutstandingNumberIsNeverZero := fun _ _ hs h =>
  step_keeps (P := Outstanding) (fun _ _ _ hs => hs) (fun _ _ _ hs he => outstanding_of_effect hs he) hs h

end Sys2Proof.Proofs.Invariants
end

section
/-! The sequence law (spec/44_sequence_counter.md R193, R194): the numbers from any start, and the counter shared by
several requesters. -/

namespace Sys2Proof.Proofs.SequenceLaw
open Sys2Proof Sys2Proof.Machine
open Sys2Proof.Proofs.CommandFrames Sys2Proof.Proofs.SequenceCounter Sys2Proof.Proofs.SuccessfulHandshake

/-- From a number that was handed out, `k` steps around the cycle 1 to 65535. -/
theorem toNat_iterate_nextSeq {q : Sys2Proof.Seq} (hq : q ≠ 0) (k : Nat) :
    (nextSeq^[k] q).toNat = (q.toNat - 1 + k) % 65535 + 1 := by
  have hpos : q.toNat ≠ 0 := fun h => hq (BitVec.eq_of_toNat_eq h)
  induction k with
  | zero =>
    have hlt := q.isLt
    rw [Function.iterate_zero, id, Nat.mod_eq_of_lt (by omega)]
    omega
  | succ k ih =>
    rw [Function.iterate_succ_apply', toNat_nextSeq, ih]
    split <;> omega

/-- Every number after the first step is one that was handed out, so the rest of its orbit is the cycle. -/
theorem toNat_iterate_nextSeq_succ (q : Sys2Proof.Seq) (k : Nat) :
    (nextSeq^[k + 1] q).toNat = ((nextSeq q).toNat - 1 + k) % 65535 + 1 := by
  rw [Function.iterate_succ_apply, toNat_iterate_nextSeq (nextSeq_ne_zero q)]

/-- Settles O33: the orbit of the counter is the cycle of 65535 numbers, entered at 1 from 0. -/
theorem sequenceLaw : Obligations.SequenceLaw := by
  constructor
  · intro k hk
    obtain ⟨k, rfl⟩ := Nat.exists_eq_add_of_le' hk
    have hone : (1 : Sys2Proof.Seq).toNat = 1 := rfl
    rw [toNat_iterate_nextSeq_succ, Reset.nextSeq_zero, hone]
    simp
  · intro q i j hi hij hj heq
    obtain ⟨i, rfl⟩ := Nat.exists_eq_add_of_le' hi
    obtain ⟨j, rfl⟩ := Nat.exists_eq_add_of_le' (hi.trans hij.le)
    have hnat := congrArg BitVec.toNat heq
    rw [toNat_iterate_nextSeq_succ, toNat_iterate_nextSeq_succ] at hnat
    omega

/-- R192: a SEQ_NEXT command at the head of the offers. -/
theorem step_seqNext {s : State} {r : Nat} {rest : List Input} (hinputs : s.inputs = .cmd r [0x20, 0x00] :: rest) :
    step s = .next
      { s with
        inputs := rest, requester := r, seq := nextSeq s.seq
        responses := s.responses ++ [⟨r, [0x00, 0x02, hi8 (nextSeq s.seq), lo8 (nextSeq s.seq)]⟩] } := by
  simp only [step, nextInput_cmd hinputs, decode, decodeFrame_seqNext]
  exact exec_seqNext _

/-- The numbers handed out after the first one, counted from it. -/
theorem map_zipIdx_cons {β : Type} (f : Nat → Sys2Proof.Seq → β) (r : Nat) (rs : List Nat) (q : Sys2Proof.Seq) :
    (r :: rs).zipIdx.map (fun (r, k) => f r (nextSeq^[k + 1] q)) =
      f r (nextSeq q) :: rs.zipIdx.map fun (r, k) => f r (nextSeq^[k + 1] (nextSeq q)) := by
  simp [List.zipIdx_cons, List.zipIdx_succ, Function.comp_def]

/-- Settles O34: by induction on the requesters, each served from the counter that the one before it left. -/
theorem sharedCounterHandsOutConsecutiveNumbers : Obligations.SharedCounterHandsOutConsecutiveNumbers := by
  intro rs
  induction rs with
  | nil =>
    intro s rest hinputs
    obtain rfl : s.inputs = rest := hinputs
    simp [Host.Core.run]
  | cons r rs ih =>
    intro s rest hinputs
    rw [List.length_cons, run_step rs.length (step_seqNext hinputs), ih _ rest rfl,
      map_zipIdx_cons (fun r n => (⟨r, [0x00, 0x02, hi8 n, lo8 n]⟩ : Response))]
    simp [List.getLast?_cons]

end Sys2Proof.Proofs.SequenceLaw
end

section
/-! What each instruction writes: the rows of the transition table (spec/45_handshake.md R201, R202), the writers of the
registers (spec/10_state.md R37, spec/44_sequence_counter.md R196), and the transport output (R32, R34). -/

namespace Sys2Proof.Proofs.Writers
open Sys2Proof Sys2Proof.Machine

/-! ### The transition table -/

/-- R201, rows 2 to 5: the changes of HS_STATE that an accepted byte can make. -/
theorem transition_of_byteEffect {b : Byte} {s t : State} (ha : s.hsState = .awaitNsAck ∨ s.hsState = .awaitSsAck)
    (he : ByteEffect b s t) (hne : t.hsState ≠ s.hsState) :
    ((s.hsState = .awaitNsAck ∨ s.hsState = .awaitSsAck) ∧ s.rxCnt = 3 ∧ HeaderFails s t.err ∧ t.hsState = .failed) ∨
    (s.hsState = .awaitNsAck ∧ s.rxCnt = 10 ∧ t.hsState = .awaitSsAck) ∨
    (s.hsState = .awaitSsAck ∧ s.rxCnt = 19 ∧ SidMatches s b ∧ t.hsState = .established) ∨
    (s.hsState = .awaitSsAck ∧ s.rxCnt = 19 ∧ ¬ SidMatches s b ∧ t.hsState = .failed ∧
      t.err = .sessionIdentifierMismatch) := by
  cases he with
  | stored | headerPassed => exact absurd rfl hne
  | headerFailed h3 _ hf => exact .inl ⟨ha, h3, hf, rfl⟩
  | exchange1 hs h10 => exact .inr (.inl ⟨hs, h10, rfl⟩)
  | established hs h19 hm => exact .inr (.inr (.inl ⟨hs, h19, hm, rfl⟩))
  | mismatch hs h19 hm => exact .inr (.inr (.inr ⟨hs, h19, hm, rfl, rfl⟩))

/-- R201, rows 7 and 8: the changes of HS_STATE that CLOSE can make. -/
theorem transition_of_closeEffect {s t : State} (he : CloseEffect s t) (hne : t.hsState ≠ s.hsState) :
    ((s.hsState = .awaitNsAck ∨ s.hsState = .awaitSsAck) ∧ t.hsState = .failed ∧ t.err = .aborted) ∨
    (s.hsState = .established ∧ t.hsState = .disconnected) := by
  cases he with
  | aborted hs => exact .inl ⟨hs, rfl, rfl⟩
  | ended hs => exact .inr ⟨hs, rfl⟩
  | closed => exact absurd (by rw [closeTransport_eq]) hne
  | nothing => exact absurd rfl hne

/-- Settles O46: each effect that moves HS_STATE is a row of the table, under the condition the effect carries. -/
theorem handshakeTransitions : Obligations.HandshakeTransitions := by
  intro i s t h hne
  cases exec_effect h with
  | answer | loadLtk | send | seqNext | waits | ignored => exact absurd rfl hne
  | hsStart hs hopen hkey =>
    left
    exact ⟨rfl, hs, hopen, hkey, rfl⟩
  | accepted b _ ha he =>
    rcases transition_of_byteEffect ha he hne with hrow | hrow | hrow | hrow
    · right; left
      exact ⟨b, rfl, hrow⟩
    · right; right; left
      exact ⟨b, rfl, hrow⟩
    · right; right; right; left
      exact ⟨b, rfl, hrow⟩
    · right; right; right; right; left
      exact ⟨b, rfl, hrow⟩
  | failed k hs =>
    iterate 5 right
    left
    exact ⟨k, rfl, hs, rfl, rfl⟩
  | close s' he =>
    rcases transition_of_closeEffect he hne with hrow | hrow
    · iterate 6 right
      left
      exact ⟨rfl, hrow⟩
    · iterate 7 right
      left
      exact ⟨rfl, hrow⟩
  | newSession hs =>
    iterate 8 right
    left
    exact ⟨rfl, hs.resolve_left fun hd => hne hd.1.symm, rfl⟩
  | reset =>
    iterate 9 right
    exact ⟨rfl, rfl⟩

/-- R202, R282: what only NEW_SESSION and Reset end. -/
theorem failed_of_effect {i : Instr} {s t : State} (he : Effect s i t) (hs : s.hsState = .failed)
    (hnew : i ≠ .newSession) (hreset : i ≠ .reset) : t.hsState = .failed ∧ t.err = s.err ∧ t.txOut = s.txOut := by
  cases he with
  | answer | loadLtk | seqNext | waits | ignored => exact ⟨hs, rfl, rfl⟩
  | newSession => exact absurd rfl hnew
  | reset => exact absurd rfl hreset
  | close _ hc =>
    cases hc with
    | nothing => exact ⟨hs, rfl, rfl⟩
    | aborted h => rcases h with h | h <;> nomatch hs.symm.trans h
    | ended h | closed h => nomatch hs.symm.trans h
  | hsStart h | send _ _ h => nomatch hs.symm.trans h
  | accepted _ _ h => rcases h with h | h <;> nomatch hs.symm.trans h
  | failed _ h => rcases h with h | h | h | ⟨h, -⟩ <;> nomatch hs.symm.trans h

/-- R202, R283: what only TErr, CLOSE and Reset end. -/
theorem established_of_effect {i : Instr} {s t : State} (he : Effect s i t) (hs : s.hsState = .established)
    (hterr : ∀ k, i ≠ .tErr k) (hclose : i ≠ .close) (hreset : i ≠ .reset) :
    t.hsState = .established ∧ t.rxCnt = s.rxCnt := by
  cases he with
  | answer | loadLtk | send | seqNext | waits => exact ⟨hs, rfl⟩
  | failed k | ignored k => exact absurd rfl (hterr k)
  | close => exact absurd rfl hclose
  | reset => exact absurd rfl hreset
  | hsStart h => nomatch hs.symm.trans h
  | newSession h => rcases h with ⟨h, -⟩ | h <;> nomatch hs.symm.trans h
  | accepted _ _ h => rcases h with h | h <;> nomatch hs.symm.trans h

/-- Settles O45: FAILED and ESTABLISHED by every effect that is possible there. -/
theorem terminalStates : Obligations.TerminalStates := fun _ _ _ h hreset =>
  ⟨fun hs hnew => failed_of_effect (exec_effect h) hs hnew hreset,
    fun hs hterr hclose => established_of_effect (exec_effect h) hs hterr hclose hreset⟩

/-! ### The registers -/

theorem seq_of_closeEffect {s t : State} (he : CloseEffect s t) : t.seq = s.seq := by
  cases he with
  | closed => rw [closeTransport_eq]
  | aborted | ended | nothing => rfl

/-- R210, R214: of the bytes of a response, only the 11th of exchange 1 takes a number. -/
theorem seq_of_byteEffect {b : Byte} {s t : State} (he : ByteEffect b s t) :
    t.seq = s.seq ∨ t.seq = nextSeq s.seq ∧ s.hsState = .awaitNsAck ∧ s.rxCnt = 10 := by
  cases he with
  | exchange1 hs h10 => exact .inr ⟨rfl, hs, h10⟩
  | stored | headerPassed | headerFailed | established | mismatch => exact .inl rfl

/-- R27, R196: the writers of SEQ, and what each writes. -/
theorem seq_of_effect {i : Instr} {s t : State} (he : Effect s i t) :
    t.seq = s.seq ∨
      (t.seq = nextSeq s.seq ∧ (i = .seqNext ∨ i = .hsStart ∨ (∃ y p, i = .send y p) ∨
        ∃ b, i = .rxByte b ∧ s.hsState = .awaitNsAck ∧ s.rxCnt = 10)) ∨
      (t.seq = 0 ∧ (i = .newSession ∨ i = .reset)) := by
  cases he with
  | answer | loadLtk | waits | failed | ignored => exact .inl rfl
  | close s' hc =>
    have hseq : s'.seq = s.seq := seq_of_closeEffect hc
    exact .inl hseq
  | seqNext => exact .inr (.inl ⟨rfl, .inl rfl⟩)
  | hsStart => exact .inr (.inl ⟨rfl, .inr (.inl rfl)⟩)
  | send y p => exact .inr (.inl ⟨rfl, .inr (.inr (.inl ⟨y, p, rfl⟩))⟩)
  | accepted b _ _ hb =>
    exact (seq_of_byteEffect hb).imp_right fun ⟨hseq, hbyte⟩ => .inl ⟨hseq, .inr (.inr (.inr ⟨b, rfl, hbyte⟩))⟩
  | newSession => exact .inr (.inr ⟨rfl, .inl rfl⟩)
  | reset => exact .inr (.inr ⟨rfl, .inr rfl⟩)

/-- Settles O49: a number that is taken is not 0, so only the two writers of 0 bring SEQ back to it. -/
theorem sequenceCounterWriters : Obligations.SequenceCounterWriters := by
  intro i s t h
  have hwriters := seq_of_effect (exec_effect h)
  refine ⟨hwriters, fun hs ht => ?_, SequenceCounter.nextSeq_ne_zero s.seq⟩
  rcases hwriters with hsame | ⟨hnext, -⟩ | ⟨-, hreset⟩
  · exact absurd (hsame.symm.trans ht) hs
  · exact absurd (hnext.symm.trans ht) (SequenceCounter.nextSeq_ne_zero s.seq)
  · exact hreset

/-- Settles O50: the registers that each effect writes, in R37's order. -/
theorem registerWriters : Obligations.RegisterWriters := by
  intro i s t h hreset
  cases exec_effect h with
  | answer | loadLtk | newSession | hsStart | send | seqNext | waits | ignored => simp [startHandshake_eq]
  | failed k hs =>
    have hlive : s.hsState ≠ .failed := by rcases hs with hs | hs | hs | ⟨hs, -⟩ <;> simp [hs]
    simp [failedBy, hlive]
  | close _ hc =>
    cases hc with
    | aborted hs =>
      have hlive : s.hsState ≠ .failed := by rcases hs with hs | hs <;> simp [hs]
      simp [failedBy, hlive]
    | ended hs => simp [hs]
    | closed => simp [closeTransport_eq]
    | nothing => simp
  | accepted b _ ha hb =>
    have hlive : s.hsState ≠ .failed := by rcases ha with ha | ha <;> simp [ha]
    cases hb with
    | stored | headerPassed | established => simp
    | headerFailed | mismatch => simp [failedBy, hlive]
    | exchange1 hs h10 => simp [completeExchange1_eq, hs, h10]
  | reset => exact absurd rfl hreset

/-! ### The transport output -/

/-- R34: from `s` to `t` the bytes `sent` leave, and then a CLOSE if `closed`, which is where T_OPEN falls. -/
def Sends (s t : State) (sent : List Byte) (closed : Bool) : Prop :=
  t.txOut = s.txOut ++ sent.map .tx ++ (if closed then [.close] else []) ∧
    (closed = true ↔ s.tOpen = true ∧ t.tOpen = false)

theorem sends_nothing {s t : State} (hout : t.txOut = s.txOut) (hopen : s.tOpen = true → t.tOpen = true) :
    Sends s t [] false :=
  ⟨by simp [hout], by simpa using hopen⟩

theorem sends_bytes {s t : State} {sent : List Byte} (hout : t.txOut = s.txOut ++ sent.map .tx)
    (hopen : t.tOpen = s.tOpen) : Sends s t sent false :=
  ⟨by simp [hout], by simp [hopen]⟩

/-- R275: a transport that is closed if it is open sends one CLOSE if it was. -/
theorem sends_close {s t : State} (hout : t.txOut = s.txOut ++ if s.tOpen = true then [.close] else [])
    (hopen : t.tOpen = false) : Sends s t [] s.tOpen :=
  ⟨by simp [hout], by simp [hopen]⟩

theorem sends_of_closeEffect {s t : State} (hinv : Inv s) (he : CloseEffect s t) :
    ∃ sent closed, Sends s t sent closed := by
  cases he with
  | aborted => exact ⟨_, _, sends_close rfl rfl⟩
  | ended hs =>
    have hopen : s.tOpen = true := (hinv.live (.inr (.inr hs))).1
    exact ⟨_, _, sends_close (by simp [hopen]) rfl⟩
  | closed => exact ⟨_, _, sends_close (by rw [closeTransport_eq]) (by rw [closeTransport_eq])⟩
  | nothing => exact ⟨_, _, sends_nothing rfl id⟩

theorem sends_of_byteEffect {b : Byte} {s t : State} (he : ByteEffect b s t) :
    ∃ sent closed, Sends s t sent closed := by
  cases he with
  | stored | headerPassed | established => exact ⟨_, _, sends_nothing rfl id⟩
  | headerFailed | mismatch => exact ⟨_, _, sends_close rfl rfl⟩
  | exchange1 => exact ⟨_, _, sends_bytes rfl rfl⟩

theorem sends_of_effect {i : Instr} {s t : State} (hinv : Inv s) (he : Effect s i t) (hreset : i ≠ .reset) :
    ∃ sent closed, Sends s t sent closed := by
  cases he with
  | answer | loadLtk | seqNext | waits | ignored => exact ⟨_, _, sends_nothing rfl id⟩
  | newSession => exact ⟨_, _, sends_nothing rfl fun _ => rfl⟩
  | hsStart => exact ⟨_, _, sends_bytes rfl rfl⟩
  | send => exact ⟨_, _, sends_bytes rfl rfl⟩
  | close s' hc =>
    obtain ⟨sent, closed, hsends⟩ := sends_of_closeEffect hinv hc
    exact ⟨sent, closed, hsends⟩
  | accepted _ _ _ hb => exact sends_of_byteEffect hb
  | failed => exact ⟨_, _, sends_close rfl rfl⟩
  | reset => exact absurd rfl hreset

/-- Settles O53: Reset sends nothing, and every other effect sends bytes, a CLOSE, or nothing. -/
theorem transportOutputIsAppendOnly : Obligations.TransportOutputIsAppendOnly := by
  intro i s t hinv h
  by_cases hreset : i = .reset
  · subst hreset
    obtain rfl := Reset.eq_resetRegisters_of_exec_reset h
    exact ⟨[], false, by simp, by simp⟩
  · obtain ⟨sent, closed, hout, hclosed⟩ := sends_of_effect hinv (exec_effect h) hreset
    exact ⟨sent, closed, hout, by simpa [hreset] using hclosed⟩

end Sys2Proof.Proofs.Writers
end

section
/-! The commands LOAD_LTK, READ_STATUS and SEND (spec/46_control.md R251, R252, spec/43_packet_codec.md R177): what each
does, where it is refused, and its frames. -/

namespace Sys2Proof.Proofs.StatefulCommands
open Sys2Proof Sys2Proof.Machine
open Sys2Proof.Proofs.CommandFrames Sys2Proof.Proofs.DecodedFrames Sys2Proof.Proofs.SequenceCounter
open Sys2Proof.Proofs.SessionCommands Sys2Proof.Proofs.ResponseEvents

/-! ### LOAD_LTK -/

theorem exec_loadLtk_legal (l : Key) {s : State} (h : s.hsState = .disconnected ∨ s.hsState = .failed) :
    exec (.loadLtk l) s = .next (answered [0x00, 0x00] { s with ltk := l, ltkValid := true }) := by
  rw [exec, execLoadLtk, if_pos h, respond_ok_nil]

theorem exec_loadLtk_refused (l : Key) {s : State} (h : ¬ (s.hsState = .disconnected ∨ s.hsState = .failed)) :
    exec (.loadLtk l) s = .next (answered [0x02, 0x00] s) := by
  rw [exec, execLoadLtk, if_neg h, cmdError_badState]

/-- R93: LOAD_LTK takes 16 operand bytes, a key. -/
theorem loadLtk_fixedLength : FixedLength 0x01 16 fun ops => .loadLtk (field 16 ops 0) := fun _ _ => rfl

theorem decodeFrame_loadLtk (l : Key) : decodeFrame (0x01 :: 0x10 :: l.toList) = .ok (.loadLtk l) := by
  rw [loadLtk_fixedLength.decodeFrame_of_length rfl (by simp), field_toList]

/-- Settles O13: the key is written in the two idle states, and a frame of the opcode that is no key has not LOAD_LTK's
length. -/
theorem loadLtkWritesKeyWhileIdle : Obligations.LoadLtkWritesKeyWhileIdle := by
  refine ⟨fun l s => ⟨exec_loadLtk_legal l, fun h => exec_loadLtk_refused l (not_or.mpr h)⟩,
    fun _ => decodeFrame_loadLtk, fun bytes hopc hbytes => ?_⟩
  refine loadLtk_fixedLength.refusesFrame hopc fun len ops hlen hops hframe => ?_
  obtain rfl : len = 0x10 := BitVec.eq_of_toNat_eq hlen
  exact hbytes (field 16 ops 0) (by rw [toList_field_all hops, hframe])

/-! ### READ_STATUS -/

/-- R36: the status view as 8 bytes. -/
def statusBytes (s : State) : Vector Byte 8 :=
  #v[(hsCode s.hsState).setWidth 8, flagsByte s, errCode s.err, s.rxCnt.setWidth 8, hi8 s.seq, lo8 s.seq,
    hi8 s.lastSeq, lo8 s.lastSeq]

theorem toList_statusBytes (s : State) : (statusBytes s).toList = statusView s := rfl

theorem exec_readStatus_bytes (s : State) :
    exec .readStatus s = .next (answered (0x00 :: 0x08 :: (statusBytes s).toList) s) := by
  rw [toList_statusBytes, Reset.exec_readStatus]

/-- R36: the four flags are the low bits of byte 1, and its bits 7 to 4 read 0. -/
theorem getLsbD_flags : ∀ ltkValid sidValid skValid tOpen : Bool, ∀ i < 8,
    ((flagBit tOpen <<< 3) ||| (flagBit skValid <<< 2) ||| (flagBit sidValid <<< 1) ||| flagBit ltkValid).getLsbD i =
      [ltkValid, sidValid, skValid, tOpen].getD i false := by
  decide

/-- R8, R61: a sequence number is sent high byte first. -/
theorem toNat_hi8_lo8 (q : Sys2Proof.Seq) : (hi8 q).toNat * 256 + (lo8 q).toNat = q.toNat := by
  rw [← toNat_be16, be16_enc16]

/-- R93: READ_STATUS takes no operand bytes. -/
theorem readStatus_fixedLength : FixedLength 0x05 0 fun _ => .readStatus := fun _ _ => rfl

/-- Settles O14: the bytes answered are the status view, and READ_STATUS has one frame. -/
theorem readStatusReturnsStatusView : Obligations.ReadStatusReturnsStatusView := by
  refine ⟨fun s => ⟨statusBytes s, exec_readStatus_bytes s, ?state, getLsbD_flags _ _ _ _, ?err, ?count,
    toNat_hi8_lo8 s.seq, toNat_hi8_lo8 s.lastSeq⟩,
    fun _ => decodeFrame_bare readStatus_fixedLength, fun _ => refusesFrame_of_ne_bare readStatus_fixedLength⟩
  case state =>
    change (hsCode s.hsState).setWidth 8 = _
    cases s.hsState <;> rfl
  case err =>
    change errCode s.err = _
    cases s.err <;> rfl
  case count =>
    change (s.rxCnt.setWidth 8).toNat = _
    exact BitVec.toNat_setWidth_of_le (by decide)

/-! ### SEND -/

theorem exec_send_established (t : Byte) (p : List Byte) {s : State} (h : s.hsState = .established) :
    exec (.send t p) s = .next (answered [0x00, 0x02, hi8 (nextSeq s.seq), lo8 (nextSeq s.seq)]
      { s with
        seq := nextSeq s.seq
        txOut := s.txOut ++ (frame s.params.padWhenAligned (nextSeq s.seq) t true s.sk p).map .tx }) := by
  rw [exec, execSend, if_pos h]
  rfl

theorem exec_send_refused (t : Byte) (p : List Byte) {s : State} (h : s.hsState ≠ .established) :
    exec (.send t p) s = .next (answered [0x02, 0x00] s) := by
  rw [exec, execSend, if_neg h, cmdError_badState]

/-- R93: SEND's LEN is that of a type at least. -/
theorem decodeFrame_send (len : Byte) (ops : List Byte) :
    decodeFrame (0x14 :: len :: ops) =
      if ops.length = len.toNat then ifLegal (decide (1 ≤ ops.length)) (.send (byteAt ops 0) (ops.drop 1))
      else .error .lengthMismatch := rfl

theorem decodeFrame_type_payload (t : Byte) {p : List Byte} (hp : p.length ≤ 254) :
    decodeFrame (0x14 :: enc8 (1 + p.length) :: t :: p) = .ok (.send t p) := by
  have hlen : (t :: p).length = 1 + p.length := Nat.add_comm ..
  rw [decodeFrame_send, hlen, toNat_enc8_of_le (by omega), if_pos rfl, ifLegal, if_pos (by simp)]
  rfl

/-- R96: a frame of the opcode that decodes is a type and a payload of at most 254 bytes. -/
theorem frame_of_decodeFrame_send {bytes : List Byte} {i : Instr} (hopc : bytes.head? = some 0x14)
    (hd : decodeFrame bytes = .ok i) :
    ∃ (t : Byte) (p : List Byte), p.length ≤ 254 ∧ bytes = 0x14 :: enc8 (1 + p.length) :: t :: p := by
  match bytes, hopc with
  | [_], _ => cases hd
  | [_, len], rfl =>
    rw [decodeFrame_send] at hd
    split at hd <;> cases hd
  | _ :: len :: t :: p, rfl =>
    rw [decodeFrame_send] at hd
    split at hd
    next hcount =>
      have hmax := len.isLt
      have hlen : 1 + p.length = len.toNat := by rw [← hcount, List.length_cons, Nat.add_comm]
      exact ⟨t, p, by omega, by rw [hlen, enc8_toNat]⟩
    next => cases hd

/-- Settles O35: in ESTABLISHED the number taken is sent and answered, and a frame of the opcode that is no type and
payload does not decode. -/
theorem sendFramesUnderSessionKey : Obligations.SendFramesUnderSessionKey := by
  refine ⟨fun t p s => ⟨exec_send_established t p, exec_send_refused t p⟩, fun _ t _ => decodeFrame_type_payload t,
    fun bytes hopc hbytes => refusesFrame_of_ne_ok fun i hd => ?_⟩
  obtain ⟨t, p, hp, hframe⟩ := frame_of_decodeFrame_send hopc hd
  exact hbytes t p hp hframe

/-! ### RX bytes that change no state of the handshake -/

/-- Settles O36: outside the awaiting states the byte is put back. -/
theorem rxByteWaitsOutsideAwaitingStates : Obligations.RxByteWaitsOutsideAwaitingStates := by
  intro b s hns hss
  have hidle : ¬ awaiting s = true := fun h => ((awaiting_iff s).mp h).elim hns hss
  rw [exec, execRxByte, if_neg hidle, offerFirst]

/-- Settles O37: a byte at no boundary of a response is only stored. -/
theorem rxByteIsStoredAndCounted : Obligations.RxByteIsStoredAndCounted := by
  intro b s hs hlt hheader hexchange1 hexchange2
  have hnext : (s.rxCnt + 1).toNat = s.rxCnt.toNat + 1 := by bv_omega
  have hne {n : BitVec 5} (h : s.rxCnt.toNat + 1 ≠ n.toNat) : s.rxCnt + 1 ≠ n := fun heq => h (heq ▸ hnext.symm)
  have hstore : acceptByte b s = storeByte b s :=
    acceptByte_store b s (hne (show s.rxCnt.toNat + 1 ≠ 4 by omega))
      (fun h => hne (show s.rxCnt.toNat + 1 ≠ 11 by have := hexchange1 h; omega))
      (fun h => hne (show s.rxCnt.toNat + 1 ≠ 20 by have := hexchange2 h; omega))
  refine ⟨s.rxBuf.setIfInBounds s.rxCnt.toNat b, ?_, hnext, fun i hi => ?_⟩
  · rw [exec_rxByte_awaiting b hs, hstore, storeByte]
  · simp only [Vector.getElem_setIfInBounds, eq_comm]

end Sys2Proof.Proofs.StatefulCommands
end

section
/-! The decode checks (spec/30_encoding.md R93 to R96, spec/46_control.md R255): the opcode rows do not overlap, and a
frame decodes exactly where no check fails. -/

namespace Sys2Proof.Proofs.DecodeChecks
open Sys2Proof Sys2Proof.Machine
open Sys2Proof.Proofs.DecodedFrames Sys2Proof.Proofs.ReservedOpcodes

/-! ### The opcode rows -/

/-- R95: the rows of the thirteen commands and of the twelve reserved ranges. -/
def opcodeRows : List OpcodeRow :=
  [⟨0xFFFF, 0x0000⟩, ⟨0xFFFF, 0x0110⟩, ⟨0xFFFF, 0x0200⟩, ⟨0xFFFF, 0x0300⟩, ⟨0xFFFF, 0x0400⟩, ⟨0xFFFF, 0x0500⟩,
    ⟨0xFFFF, 0x0600⟩, ⟨0xFFFF, 0x1015⟩, ⟨0xFF00, 0x1100⟩, ⟨0xFFFF, 0x1222⟩, ⟨0xFF00, 0x1300⟩, ⟨0xFF00, 0x1400⟩,
    ⟨0xFFFF, 0x2000⟩, ⟨0xFF00, 0x0700⟩, ⟨0xF800, 0x0800⟩, ⟨0xFF00, 0x1500⟩, ⟨0xFE00, 0x1600⟩, ⟨0xF800, 0x1800⟩,
    ⟨0xFF00, 0x2100⟩, ⟨0xFE00, 0x2200⟩, ⟨0xFC00, 0x2400⟩, ⟨0xF800, 0x2800⟩, ⟨0xF000, 0x3000⟩, ⟨0xC000, 0x4000⟩,
    ⟨0x8000, 0x8000⟩]

theorem mem_opcodeRows {i : Instr} {p : OpcodeRow} (h : opcodeRow i = some p) : p ∈ opcodeRows := by
  cases i with
  | rxByte | tErr | reset => nomatch h
  | _ =>
    obtain rfl := Option.some.inj h
    decide

/-- Two different rows differ in a bit that both fix. -/
theorem opcodeRows_differ : ∀ p ∈ opcodeRows, ∀ q ∈ opcodeRows, p.val &&& q.mask = q.val &&& p.mask → p = q := by
  decide +kernel

/-- Settles O3: a word that matches two rows has the bits that both fix in common with each. -/
theorem opcodeRowsDoNotOverlap : Obligations.OpcodeRowsDoNotOverlap := by
  intro i j p q w hi hj hp hq
  refine opcodeRows_differ p (mem_opcodeRows hi) q (mem_opcodeRows hj) ?_
  rw [← hp, ← hq, BitVec.and_assoc, BitVec.and_assoc, BitVec.and_comm p.mask]

/-! ### Which frames decode -/

/-- R93, R95: the thirteen opcodes that are not reserved. -/
theorem opcode_of_not_reserved : ∀ opc : Byte, ¬ ReservedOpcode opc →
    opc ∈ ([0x00, 0x01, 0x02, 0x03, 0x04, 0x05, 0x06, 0x10, 0x11, 0x12, 0x13, 0x14, 0x20] : List Byte) := by
  decide +kernel

theorem decodeFrame_of_not_reserved {opc : Byte} (hopc : ¬ ReservedOpcode opc) (len : Byte) (ops : List Byte) :
    decodeFrame (opc :: len :: ops) =
      if ops.length = len.toNat then decodeOperands opc ops else .error .lengthMismatch := by
  simp only [decodeFrame, (decodeReserved_eq_none_iff opc len ops).mpr hopc]

theorem ifLegal_eq_ok {legal : Bool} {i j : Instr} : ifLegal legal i = .ok j ↔ legal = true ∧ i = j := by
  cases legal <;> simp [ifLegal]

theorem exists_ifLegal_eq_ok {legal : Bool} {i : Instr} : (∃ j, ifLegal legal i = .ok j) ↔ legal = true := by
  simp [ifLegal_eq_ok]

/-- R93, R96: the operands of FRAME. -/
theorem decodeOperands_frame (ops : List Byte) :
    decodeOperands 0x13 ops =
      if ops.length < 20 then .error .illegalLen
      else if byteAt ops 3 = 0x00 ∨ byteAt ops 3 = 0x01 then
        .ok (.frame (be16 (byteAt ops 0) (byteAt ops 1)) (byteAt ops 2) (byteAt ops 3 == 0x01) (field 16 ops 4)
          (ops.drop 20))
      else .error .keyPresent := rfl

/-- R96: the last checks of FRAME, its LEN and its KP. -/
theorem exists_decodeOperands_frame (ops : List Byte) :
    (∃ i, decodeOperands 0x13 ops = .ok i) ↔ 20 ≤ ops.length ∧ (byteAt ops 3 = 0x00 ∨ byteAt ops 3 = 0x01) := by
  rw [decodeOperands_frame]
  split_ifs with hlen hkp
  · simp [hlen]
  · exact iff_of_true ⟨_, rfl⟩ ⟨not_lt.mp hlen, hkp⟩
  · exact iff_of_false (fun ⟨_, h⟩ => nomatch h) fun h => hkp h.2

/-- R96: the operands of an opcode that is not reserved decode where their count is legal and a KP among them is. -/
theorem exists_decodeOperands_iff {opc : Byte} (hopc : ¬ ReservedOpcode opc) (ops : List Byte) :
    (∃ i, decodeOperands opc ops = .ok i) ↔
      LegalLen opc ops.length ∧ (opc = 0x13 → byteAt ops 3 = 0x00 ∨ byteAt ops 3 = 0x01) := by
  by_cases hframe : opc = 0x13
  · subst hframe
    rw [exists_decodeOperands_frame]
    simp [LegalLen]
  · have hmem := opcode_of_not_reserved opc hopc
    simp only [List.mem_cons, List.not_mem_nil, or_false, hframe, false_or] at hmem
    rcases hmem with rfl | rfl | rfl | rfl | rfl | rfl | rfl | rfl | rfl | rfl | rfl | rfl
    all_goals
      refine exists_ifLegal_eq_ok.trans ?_
      simp [LegalLen]

/-- Settles O5: the reserved opcodes, and the checks of the others in R96's order. -/
theorem everyOtherFrameDecodes : Obligations.EveryOtherFrameDecodes := by
  intro r bytes
  change (∃ i, decodeFrame bytes = .ok i) ↔ ¬ Malformed bytes
  match bytes with
  | [] | [_] => simp [decodeFrame, Malformed]
  | opc :: len :: ops =>
    have hopcode : byteAt (opc :: len :: ops) 0 = opc := rfl
    have hlen : byteAt (opc :: len :: ops) 1 = len := rfl
    have hkp : byteAt (opc :: len :: ops) 5 = byteAt ops 3 := rfl
    have hcount : (opc :: len :: ops).length = 2 + ops.length := by simp; omega
    have hlong : ¬ 2 + ops.length < 2 := by omega
    rw [Malformed, hopcode, hlen, hkp, hcount, or_iff_right hlong]
    by_cases hopc : ReservedOpcode opc
    · obtain ⟨i, -, hd⟩ := decodeFrame_of_reservedOpcode hopc len ops
      exact iff_of_true ⟨i, hd⟩ fun h => h.1 hopc
    · rw [decodeFrame_of_not_reserved hopc]
      by_cases hbytes : ops.length = len.toNat
      · rw [if_pos hbytes, exists_decodeOperands_iff hopc, hbytes]
        simp [hopc, ← or_iff_not_imp_left]
      · simp [hbytes, hopc]

/-- Settles O4: a malformed frame does not decode, and is therefore refused. -/
theorem malformedFramesAnswerInvalidInput : Obligations.MalformedFramesAnswerInvalidInput := fun bytes hbad =>
  refusesFrame_of_ne_ok fun i hd => (everyOtherFrameDecodes 0 bytes).mp ⟨i, hd⟩ hbad

end Sys2Proof.Proofs.DecodeChecks
end

section
/-! The decoder and the encoder against each other (spec/30_encoding.md R90 to R99): a frame that decodes is the
encoding of what it decodes to, and every encoding decodes to its instruction. -/

namespace Sys2Proof.Proofs.RoundTrip
open Sys2Proof Sys2Proof.Machine
open Sys2Proof.Proofs.CommandFrames Sys2Proof.Proofs.DecodedFrames
open Sys2Proof.Proofs.ReservedOpcodes Sys2Proof.Proofs.DecodeChecks
open Sys2Proof.Proofs.SequenceCounter Sys2Proof.Proofs.SessionCommands Sys2Proof.Proofs.ControlCommands
open Sys2Proof.Proofs.KeyDerivation Sys2Proof.Proofs.ChainEncCommand Sys2Proof.Proofs.ChainDecCommand
open Sys2Proof.Proofs.FrameCommand Sys2Proof.Proofs.StatefulCommands

/-! ### From a frame to its instruction and back -/

/-- R93, R99: `bytes` is the frame of the well-formed instruction `i`, by whatever requester. -/
def IsFrameOf (bytes : List Byte) (i : Instr) : Prop := WellFormed i = true ∧ ∀ r, encode r i = .cmd r bytes

/-- R95: an opcode whose fixed bits are those of its row is the row's match with its own free bits. -/
theorem append_setWidth_of_match {m k : Nat} (hi : BitVec m) (opc : BitVec (m + k))
    (h : opc &&& (BitVec.allOnes m ++ 0#k) = hi ++ 0#k) : hi ++ opc.setWidth k = opc := by
  apply BitVec.eq_of_getLsbD_eq
  intro j hj
  have hbit := congrArg (BitVec.getLsbD · j) h
  simp only [BitVec.getLsbD_and, BitVec.getLsbD_append, BitVec.getLsbD_zero, BitVec.getLsbD_allOnes] at hbit
  rw [BitVec.getLsbD_append, BitVec.getLsbD_setWidth]
  split_ifs at hbit ⊢ with hlow
  · simp [hlow]
  · simpa [show j - k < m by omega] using hbit.symm

theorem isFrameOf_of_opcode_eq {x opc len : Byte} {ops : List Byte} {i : Instr} (hwf : WellFormed i = true)
    (hencode : ∀ r, encode r i = .cmd r (x :: len :: ops)) (hx : x = opc) : IsFrameOf (opc :: len :: ops) i :=
  hx ▸ ⟨hwf, hencode⟩

/-- R95: a reserved opcode's frame is the one encoding of its instruction. -/
theorem isFrameOf_decodeReserved {opc len : Byte} {ops : List Byte} {i : Instr}
    (h : decodeReserved opc len ops = some i) : IsFrameOf (opc :: len :: ops) i := by
  have free {m k : Nat} (hi : BitVec m) (opc : BitVec (m + k)) := append_setWidth_of_match hi opc
  rw [decodeReserved] at h
  obtain ⟨hrow, h⟩ | ⟨-, h⟩ := ite_eq_iff.mp h
  · exact Option.some.inj h ▸ isFrameOf_of_opcode_eq rfl (fun _ => rfl) hrow.symm
  obtain ⟨hrow, h⟩ | ⟨-, h⟩ := ite_eq_iff.mp h
  · exact Option.some.inj h ▸ isFrameOf_of_opcode_eq rfl (fun _ => rfl) (free (k := 3) 0x01#5 opc hrow)
  obtain ⟨hrow, h⟩ | ⟨-, h⟩ := ite_eq_iff.mp h
  · exact Option.some.inj h ▸ isFrameOf_of_opcode_eq rfl (fun _ => rfl) hrow.symm
  obtain ⟨hrow, h⟩ | ⟨-, h⟩ := ite_eq_iff.mp h
  · exact Option.some.inj h ▸ isFrameOf_of_opcode_eq rfl (fun _ => rfl) (free (k := 1) 0x0B#7 opc hrow)
  obtain ⟨hrow, h⟩ | ⟨-, h⟩ := ite_eq_iff.mp h
  · exact Option.some.inj h ▸ isFrameOf_of_opcode_eq rfl (fun _ => rfl) (free (k := 3) 0x03#5 opc hrow)
  obtain ⟨hrow, h⟩ | ⟨-, h⟩ := ite_eq_iff.mp h
  · exact Option.some.inj h ▸ isFrameOf_of_opcode_eq rfl (fun _ => rfl) hrow.symm
  obtain ⟨hrow, h⟩ | ⟨-, h⟩ := ite_eq_iff.mp h
  · exact Option.some.inj h ▸ isFrameOf_of_opcode_eq rfl (fun _ => rfl) (free (k := 1) 0x11#7 opc hrow)
  obtain ⟨hrow, h⟩ | ⟨-, h⟩ := ite_eq_iff.mp h
  · exact Option.some.inj h ▸ isFrameOf_of_opcode_eq rfl (fun _ => rfl) (free (k := 2) 0x09#6 opc hrow)
  obtain ⟨hrow, h⟩ | ⟨-, h⟩ := ite_eq_iff.mp h
  · exact Option.some.inj h ▸ isFrameOf_of_opcode_eq rfl (fun _ => rfl) (free (k := 3) 0x05#5 opc hrow)
  obtain ⟨hrow, h⟩ | ⟨-, h⟩ := ite_eq_iff.mp h
  · exact Option.some.inj h ▸ isFrameOf_of_opcode_eq rfl (fun _ => rfl) (free (k := 4) 0x3#4 opc hrow)
  obtain ⟨hrow, h⟩ | ⟨-, h⟩ := ite_eq_iff.mp h
  · exact Option.some.inj h ▸ isFrameOf_of_opcode_eq rfl (fun _ => rfl) (free (k := 6) 0x1#2 opc hrow)
  obtain ⟨hrow, h⟩ | ⟨-, h⟩ := ite_eq_iff.mp h
  · exact Option.some.inj h ▸ isFrameOf_of_opcode_eq rfl (fun _ => rfl) (free (k := 7) 0x1#1 opc hrow)
  · nomatch h

theorem enc16_be16 (h l : Byte) : enc16 (be16 h l) = [h, l] := by
  rw [enc16, hi8_be16, lo8_be16]

/-- R93: the frame of an opcode without operands. -/
theorem isFrameOf_bare {opc : Byte} {ops : List Byte} {i j : Instr} (hwf : WellFormed i = true)
    (hencode : ∀ r, encode r i = .cmd r (commandFrame opc [])) (h : ifLegal (ops.length == 0) i = .ok j) :
    IsFrameOf (commandFrame opc ops) j := by
  obtain ⟨hlen, rfl⟩ := ifLegal_eq_ok.mp h
  obtain rfl : ops = [] := List.eq_nil_of_length_eq_zero (by simpa using hlen)
  exact ⟨hwf, hencode⟩

/-- R93: FRAME's operands, of which the byte KP must be one that an encoding can hold. -/
theorem isFrameOf_frame {ops : List Byte} (hmin : 20 ≤ ops.length) (hmax : ops.length ≤ 255)
    (hkp : byteAt ops 3 = 0x00 ∨ byteAt ops 3 = 0x01) :
    IsFrameOf (commandFrame 0x13 ops) (.frame (be16 (byteAt ops 0) (byteAt ops 1)) (byteAt ops 2)
      (byteAt ops 3 == 0x01) (field 16 ops 4) (ops.drop 20)) := by
  refine ⟨by simp [WellFormed]; omega, fun r => ?_⟩
  have hops := header_append_key_append_payload hmin
  have hwritten : (if byteAt ops 3 == 0x01 then (0x01 : Byte) else 0x00) = byteAt ops 3 := keyPresent_written hkp
  rw [encode, enc16_be16, hwritten]
  exact congrArg (fun ops => Input.cmd r (commandFrame 0x13 ops)) hops

/-- R93: the operand bytes of each opcode are the fields of the instruction, one after the other. -/
theorem isFrameOf_decodeOperands {opc : Byte} {ops : List Byte} {i : Instr} (hopc : ¬ ReservedOpcode opc)
    (hmax : ops.length ≤ 255) (h : decodeOperands opc ops = .ok i) : IsFrameOf (commandFrame opc ops) i := by
  have hmem := opcode_of_not_reserved opc hopc
  simp only [List.mem_cons, List.not_mem_nil, or_false] at hmem
  rcases hmem with rfl | rfl | rfl | rfl | rfl | rfl | rfl | rfl | rfl | rfl | rfl | rfl | rfl
  · exact isFrameOf_bare rfl (fun _ => rfl) h
  · obtain ⟨hlen, rfl⟩ := ifLegal_eq_ok.mp h
    exact ⟨rfl, fun r => by rw [encode, toList_field_all (by simpa using hlen)]⟩
  · exact isFrameOf_bare rfl (fun _ => rfl) h
  · exact isFrameOf_bare rfl (fun _ => rfl) h
  · exact isFrameOf_bare rfl (fun _ => rfl) h
  · exact isFrameOf_bare rfl (fun _ => rfl) h
  · exact isFrameOf_bare rfl (fun _ => rfl) h
  · obtain ⟨hlen, rfl⟩ := ifLegal_eq_ok.mp h
    exact ⟨rfl, fun r => by rw [encode, toList_key_append_toList_sid (by simpa using hlen)]⟩
  · obtain ⟨hlen, rfl⟩ := ifLegal_eq_ok.mp h
    have hmin : 20 ≤ ops.length := by simpa using hlen
    have hops : (field 16 ops 0).toList ++ ops.drop 16 = ops := by
      rw [toList_field (by omega), List.drop_zero, List.take_append_drop]
    exact ⟨by simp [WellFormed]; omega, fun r => by rw [encode, hops]⟩
  · obtain ⟨hlen, rfl⟩ := ifLegal_eq_ok.mp h
    exact ⟨rfl, fun r => by rw [encode, enc16_be16, key_append_seq_append_block (by simpa using hlen)]⟩
  · rw [decodeOperands_frame] at h
    split_ifs at h with hlen hkp
    cases h
    exact isFrameOf_frame (not_lt.mp hlen) hmax hkp
  · obtain ⟨hlen, rfl⟩ := ifLegal_eq_ok.mp h
    match ops, hlen with
    | t :: p, _ => exact ⟨by simpa [WellFormed, Nat.lt_succ_iff] using hmax, fun _ => rfl⟩
  · exact isFrameOf_bare rfl (fun _ => rfl) h

theorem isFrameOf_decodeFrame {bytes : List Byte} {i : Instr} (h : decodeFrame bytes = .ok i) : IsFrameOf bytes i := by
  match bytes with
  | [] | [_] => nomatch h
  | opc :: len :: ops =>
    by_cases hopc : ReservedOpcode opc
    · obtain ⟨j, hj, hd⟩ := decodeFrame_of_reservedOpcode hopc len ops
      obtain rfl := Except.ok.inj (hd.symm.trans h)
      exact isFrameOf_decodeReserved hj
    · rw [decodeFrame_of_not_reserved hopc] at h
      split at h
      · next hcount =>
        have hmax := len.isLt
        have hframe : commandFrame opc ops = opc :: len :: ops := by rw [commandFrame, hcount, enc8_toNat]
        exact hframe ▸ isFrameOf_decodeOperands hopc (by omega) h
      · cases h

open Sys2Proof.Laws in
/-- R90, R95: every instruction's encoding matches its row, one lemma per instruction. -/
theorem encodesToRow (i : Instr) : EncodesToRow.Statement i := by
  cases i with
  | nop => exact EncodesToRow.nop
  | loadLtk => exact EncodesToRow.loadLtk _
  | newSession => exact EncodesToRow.newSession
  | hsStart => exact EncodesToRow.hsStart
  | close => exact EncodesToRow.close
  | readStatus => exact EncodesToRow.readStatus
  | readSk => exact EncodesToRow.readSk
  | kdf => exact EncodesToRow.kdf _ _
  | chainEnc => exact EncodesToRow.chainEnc _ _
  | chainDec => exact EncodesToRow.chainDec _ _ _
  | frame => exact EncodesToRow.frame _ _ _ _ _
  | send => exact EncodesToRow.send _ _
  | seqNext => exact EncodesToRow.seqNext
  | reserved07 => exact EncodesToRow.reserved07 _ _
  | reserved08 => exact EncodesToRow.reserved08 _ _ _
  | reserved15 => exact EncodesToRow.reserved15 _ _
  | reserved16 => exact EncodesToRow.reserved16 _ _ _
  | reserved18 => exact EncodesToRow.reserved18 _ _ _
  | reserved21 => exact EncodesToRow.reserved21 _ _
  | reserved22 => exact EncodesToRow.reserved22 _ _ _
  | reserved24 => exact EncodesToRow.reserved24 _ _ _
  | reserved28 => exact EncodesToRow.reserved28 _ _ _
  | reserved30 => exact EncodesToRow.reserved30 _ _ _
  | reserved40 => exact EncodesToRow.reserved40 _ _ _
  | reserved80 => exact EncodesToRow.reserved80 _ _ _
  | rxByte => exact EncodesToRow.rxByte _
  | tErr => exact EncodesToRow.tErr _
  | reset => exact EncodesToRow.reset

/-- Settles O2: the fields read are the frame's bytes again, and a frame decodes to no event, so the row exists. -/
theorem framesDecodeToTheirOnlyEncoding : Obligations.FramesDecodeToTheirOnlyEncoding := by
  intro r bytes i h
  obtain ⟨hwf, hencode⟩ := isFrameOf_decodeFrame h
  obtain ⟨row, hrow⟩ := Option.ne_none_iff_exists'.mp fun hi => CommandErrors.decodeFrame_ne_event hi bytes h
  obtain ⟨bytes', hbytes', hmatch⟩ := encodesToRow i r row hrow hwf
  obtain ⟨-, rfl⟩ := Input.cmd.inj ((hencode r).symm.trans hbytes')
  exact ⟨hwf, hencode r, row, hrow, hmatch⟩

/-! ### From an instruction to its frame and back -/

theorem toNat_append (m k : Nat) (hi : BitVec m) (x : BitVec k) :
    (hi ++ x).toNat = hi.toNat * 2 ^ k + x.toNat := by
  rw [BitVec.toNat_append, ← Nat.shiftLeft_add_eq_or_of_lt x.isLt, Nat.shiftLeft_eq]

/-- R95: the reserved rows as intervals of the opcode byte. -/
theorem decodeReserved_eq_intervals (opc len : Byte) (rest : List Byte) :
    decodeReserved opc len rest =
      if opc.toNat = 0x07 then some (.reserved07 len rest)
      else if 0x08 ≤ opc.toNat ∧ opc.toNat < 0x10 then some (.reserved08 (opc.setWidth 3) len rest)
      else if opc.toNat = 0x15 then some (.reserved15 len rest)
      else if 0x16 ≤ opc.toNat ∧ opc.toNat < 0x18 then some (.reserved16 (opc.setWidth 1) len rest)
      else if 0x18 ≤ opc.toNat ∧ opc.toNat < 0x20 then some (.reserved18 (opc.setWidth 3) len rest)
      else if opc.toNat = 0x21 then some (.reserved21 len rest)
      else if 0x22 ≤ opc.toNat ∧ opc.toNat < 0x24 then some (.reserved22 (opc.setWidth 1) len rest)
      else if 0x24 ≤ opc.toNat ∧ opc.toNat < 0x28 then some (.reserved24 (opc.setWidth 2) len rest)
      else if 0x28 ≤ opc.toNat ∧ opc.toNat < 0x30 then some (.reserved28 (opc.setWidth 3) len rest)
      else if 0x30 ≤ opc.toNat ∧ opc.toNat < 0x40 then some (.reserved30 (opc.setWidth 4) len rest)
      else if 0x40 ≤ opc.toNat ∧ opc.toNat < 0x80 then some (.reserved40 (opc.setWidth 6) len rest)
      else if 0x80 ≤ opc.toNat ∧ opc.toNat < 0x100 then some (.reserved80 (opc.setWidth 7) len rest)
      else none :=
  have row (k n : Nat) (hn : n * 2 ^ k < 256) := and_highMask_eq_iff opc k n hn
  have single (c : Byte) : opc = c ↔ opc.toNat = c.toNat := BitVec.toNat_inj.symm
  if_congr (single 0x07) rfl <| if_congr (row 3 0x01 (by decide)) rfl <|
  if_congr (single 0x15) rfl <| if_congr (row 1 0x0B (by decide)) rfl <|
  if_congr (row 3 0x03 (by decide)) rfl <| if_congr (single 0x21) rfl <|
  if_congr (row 1 0x11 (by decide)) rfl <| if_congr (row 2 0x09 (by decide)) rfl <|
  if_congr (row 3 0x05 (by decide)) rfl <| if_congr (row 4 0x03 (by decide)) rfl <|
  if_congr (row 6 0x01 (by decide)) rfl <| if_congr (row 7 0x01 (by decide)) rfl rfl

theorem decodeFrame_of_decodeReserved {opc len : Byte} {rest : List Byte} {i : Instr}
    (h : decodeReserved opc len rest = some i) : decodeFrame (opc :: len :: rest) = .ok i := by
  simp [decodeFrame, h]

/-- R90: a frame whose LEN byte counts its operands. -/
theorem decode_commandFrame {opc : Byte} {ops : List Byte} {n : Nat} {i : Instr} (r : Nat) (hlen : ops.length = n)
    (hd : decodeFrame (opc :: enc8 n :: ops) = .ok i) : decode (.cmd r (commandFrame opc ops)) = .ok i := by
  subst hlen
  exact hd

/-- Settles O1: each instruction's fields are read back from its operand bytes, and a reserved row's free bits from the
opcode. -/
theorem decodeEncodeRoundTrip : Obligations.DecodeEncodeRoundTrip := by
  intro r i hwf
  cases i with
  | nop | newSession | hsStart | close | readStatus | readSk | seqNext | rxByte | reset => rfl
  | loadLtk l => exact decode_commandFrame r (n := 16) (by simp) (decodeFrame_loadLtk l)
  | kdf l sid => exact decode_commandFrame r (n := 21) (by simp) (decodeFrame_kdf l sid)
  | chainEnc k buf =>
    obtain ⟨hmin, hmax⟩ : 4 ≤ buf.length ∧ buf.length ≤ 239 := by simpa [WellFormed] using hwf
    exact decode_commandFrame r (by simp) (decodeFrame_key_append_buffer k hmin hmax)
  | chainDec k sq blk =>
    have hd := decodeFrame_chainDec k (hi8 sq) (lo8 sq) blk
    rw [be16_enc16] at hd
    exact decode_commandFrame r (n := 34) (by simp) hd
  | frame sq t kp k p =>
    have hmax : p.length ≤ 235 := by simpa [WellFormed] using hwf
    have hd := decodeFrame_header_append_key (hi8 sq) (lo8 sq) t kp k hmax
    rw [be16_enc16] at hd
    exact decode_commandFrame r (by simp; omega) hd
  | send t p =>
    have hmax : p.length ≤ 254 := by simpa [WellFormed] using hwf
    exact decode_commandFrame r (Nat.add_comm ..) (decodeFrame_type_payload t hmax)
  | tErr k => cases k <;> rfl
  | reserved07 | reserved15 | reserved21 => rfl
  | reserved08 x | reserved16 x | reserved18 x | reserved22 x | reserved24 x | reserved28 x | reserved30 x
  | reserved40 x | reserved80 x =>
    have hx := x.isLt
    refine decodeFrame_of_decodeReserved ?_
    simp (disch := omega) only [decodeReserved_eq_intervals, toNat_append, BitVec.toNat_ofNat, if_neg, if_pos,
      BitVec.setWidth_append_eq_right]

end Sys2Proof.Proofs.RoundTrip
end

section
/-! The responses (spec/30_encoding.md R91, R92, R94, R102): every command gets one, whose length byte counts its data,
and an event gets none. -/

namespace Sys2Proof.Proofs.Responses
open Sys2Proof Sys2Proof.Machine
open Sys2Proof.Proofs.CommandErrors Sys2Proof.Proofs.Steps

/-- R91, R92: one response to the current requester, with at most 255 bytes of data, and with none unless it is OK. -/
def Responds (s t : State) : Prop :=
  ∃ (st : Status) (data : List Byte), t.responses = s.responses ++ [⟨s.requester, responseFrame st data⟩] ∧
    data.length ≤ 255 ∧ (st ≠ .ok → data = [])

theorem responds_ok {data : List Byte} {s s' : State} (hmax : data.length ≤ 255)
    (hresponses : s'.responses = s.responses) (hrequester : s'.requester = s.requester) :
    Responds s (respond .ok data s') :=
  ⟨.ok, data, by rw [respond_responses, hresponses, hrequester], hmax, fun h => absurd rfl h⟩

theorem responds_cmdError (st : Status) (s : State) : Responds s (cmdError st s) :=
  ⟨st, [], rfl, by simp, fun _ => rfl⟩

/-- A command with a state check responds whether the check holds or not. -/
theorem responds_of_stateCheck {legal : Prop} [Decidable legal] {data : List Byte} {s s' t : State}
    (hmax : data.length ≤ 255) (hresponses : s'.responses = s.responses) (hrequester : s'.requester = s.requester)
    (h : (if legal then .next (respond .ok data s') else .next (cmdError .badState s) :
      Host.Outcome State Fault Refusal) = .next t) : Responds s t := by
  split at h
  · cases h
    exact responds_ok hmax hresponses hrequester
  · cases h
    exact responds_cmdError .badState s

/-- R151, R152: the longest packet, a header and the padding of 235 bytes, fits a response. -/
theorem length_chainEnc_le (pad : Bool) (k : Key) {b : List Byte} (hmin : 4 ≤ b.length) (hmax : b.length ≤ 239) :
    (chainEnc pad k b).length ≤ 255 := by
  have := ChainEncCommand.padLen_le_240 pad (n := b.length - 4) (by omega)
  rw [length_chainEnc pad k hmin]
  omega

/-- R170: each of the three forms of a packet fits a response. -/
theorem length_frame_le (pad : Bool) (sq : Sys2Proof.Seq) (t : Byte) (kp : Bool) (k : Key) {p : List Byte}
    (hmax : p.length ≤ 235) : (frame pad sq t kp k p).length ≤ 255 := by
  unfold frame
  split_ifs
  · simp
  · simp; omega
  · exact length_chainEnc_le pad k (by simp) (by simp; omega)

/-- R94: the commands, in the states and with the operands they can have. -/
theorem responds_of_exec {i : Instr} {s t : State} (hwf : WellFormed i = true) (hrow : opcodeRow i ≠ none)
    (h : exec i s = .next t) : Responds s t := by
  cases i with
  | nop | readStatus | kdf | chainDec =>
    cases h
    exact responds_ok (by simp [statusView]) rfl rfl
  | chainEnc k b =>
    cases h
    obtain ⟨hmin, hmax⟩ : 4 ≤ b.length ∧ b.length ≤ 239 := by simpa [WellFormed] using hwf
    exact responds_ok (length_chainEnc_le _ k hmin hmax) rfl rfl
  | frame sq t kp k p =>
    cases h
    have hmax : p.length ≤ 235 := by simpa [WellFormed] using hwf
    exact responds_ok (length_frame_le _ sq t kp k hmax) rfl rfl
  | seqNext =>
    cases h
    exact responds_ok (s' := seqNext s) (by simp) rfl rfl
  | close =>
    cases h
    obtain ⟨hresponses, hrequester⟩ := responses_of_closeEffect (closeSession_effect s)
    exact responds_ok (by simp) hresponses hrequester
  | loadLtk l => exact responds_of_stateCheck (s' := { s with ltk := l, ltkValid := true }) (by simp) rfl rfl h
  | newSession => exact responds_of_stateCheck (s' := emptySession s) (by simp) rfl rfl h
  | hsStart => exact responds_of_stateCheck (s' := startHandshake s) (by simp) rfl rfl h
  | readSk => exact responds_of_stateCheck (s' := s) (by simp) rfl rfl h
  | send => exact responds_of_stateCheck (s' := emitTx _ (seqNext s)) (by simp) rfl rfl h
  | reserved07 | reserved08 | reserved15 | reserved16 | reserved18 | reserved21 | reserved22 | reserved24 | reserved28
  | reserved30 | reserved40 | reserved80 =>
    cases h
    exact responds_cmdError .illegalCommand s
  | rxByte | tErr | reset => exact absurd rfl hrow

theorem responses_of_byteEffect {b : Byte} {s t : State} (he : ByteEffect b s t) : t.responses = s.responses := by
  cases he <;> rfl

/-- R102: an event gets no response. -/
theorem responses_of_event {i : Instr} {s t : State} (hrow : opcodeRow i = none) (he : Effect s i t) :
    t.responses = s.responses := by
  cases he with
  | answer _ _ _ hr hk hi =>
    cases i with
    | rxByte b => exact absurd rfl (hr b)
    | tErr k => exact absurd rfl (hk k)
    | reset => exact absurd rfl hi
    | _ => nomatch hrow
  | accepted _ _ _ hb => exact responses_of_byteEffect hb
  | waits | failed | ignored | reset => rfl
  | loadLtk | newSession | hsStart | close | send | seqNext => nomatch hrow

/-- R102: an input that is no command stands for an event. -/
theorem opcodeRow_of_event {input : Input} {i : Instr} (hevent : ∀ r bytes, input ≠ .cmd r bytes)
    (hd : decode input = .ok i) : opcodeRow i = none := by
  cases input with
  | cmd r bytes => exact absurd rfl (hevent r bytes)
  | tErr code =>
    rcases decodeErrPort_cases code with ⟨k, hk⟩ | ⟨-, hk⟩
    · cases hk.symm.trans hd
      rfl
    · cases hk.symm.trans hd
  | rxByte | reset =>
    cases hd
    rfl

/-- R94, R255: a command that is served, whether its frame decodes or is malformed. -/
theorem responds_of_step_cmd {s t : State} {before after : List Input} {r : Nat} {bytes : List Byte}
    (hinputs : s.inputs = before ++ .cmd r bytes :: after) (hbefore : ∀ x ∈ before, enabled s x = false)
    (h : step s = .next t) : Responds (serving s (before ++ after) (.cmd r bytes)) t := by
  cases hd : decode (.cmd r bytes) with
  | ok i =>
    rw [step_of_decode hinputs hbefore rfl hd] at h
    exact responds_of_exec (RoundTrip.isFrameOf_decodeFrame hd).1 (fun hi => decodeFrame_ne_event hi bytes hd) h
  | error e =>
    rw [step_of_reject hinputs hbefore rfl hd,
      CommandFrames.rejectInput_of_ne fun he => DecodedFrames.decodeFrame_ne_errPortKind3 bytes (he ▸ hd)] at h
    cases h
    exact responds_cmdError _ _

/-- Settles O51: the one input that a step serves is a command, which responds, or an event, which does not. -/
theorem oneResponsePerCommand : Obligations.OneResponsePerCommand := by
  intro s t before after input hinputs hbefore henabled h
  constructor
  · rintro r bytes rfl
    obtain ⟨st, data, hresponses, hmax, hdata⟩ := responds_of_step_cmd hinputs hbefore h
    refine ⟨statusCode st, data, hresponses, hmax, ?_, fun hst => hdata ?_⟩
    · cases st <;> simp [statusCode]
    · rintro rfl
      exact hst rfl
  · intro hevent
    cases hd : decode input with
    | ok i =>
      rw [step_of_decode hinputs hbefore henabled hd] at h
      exact (responses_of_event (opcodeRow_of_event hevent hd) (exec_effect h)).trans rfl
    | error e =>
      rw [step_of_reject hinputs hbefore henabled hd] at h
      rcases input_of_decode_error hd with ⟨⟨r, bytes, rfl⟩, -⟩ | ⟨-, rfl⟩
      · exact absurd rfl (hevent r bytes)
      · nomatch h

end Sys2Proof.Proofs.Responses
end

section
/-! Laws of the pure functions: key derivation (spec/41_key_derivation.md R142), the S-box (spec/40_aes128.md R122 to
R124), padding and chaining (spec/42_block_cipher_chaining.md R151, R156); and the reset values (spec/10_state.md
R39). -/

namespace Sys2Proof.Proofs.PureLaws
open Sys2Proof Sys2Proof.Machine
open Sys2Proof.Proofs.KeyDerivation Sys2Proof.Proofs.Chaining

/-! ### Key derivation -/

/-- A key is the 11 bytes that derivation keeps and the 5 that it changes. -/
theorem key_ext {a b : Key} (hhead : ∀ (i : Nat) (h : i < 11), a[i] = b[i])
    (htail : ∀ (j : Nat) (h : j < 5), a[11 + j] = b[11 + j]) : a = b := by
  ext i hi : 1
  rcases Nat.lt_or_ge i 11 with hlt | hge
  · exact hhead i hlt
  · obtain ⟨j, rfl⟩ := Nat.exists_eq_add_of_le hge
    exact htail j (by omega)

/-- Settles O20: each item on the 11 bytes that are kept and on the 5 that are XORed with the identifier. -/
theorem kdfCornerCases : Obligations.KdfCornerCases := by
  have hkept (l : Key) (s : Sid) (i : Nat) (hi : i < 11) : (kdf l s)[i] = l[i] := kdf_getElem_head l s hi
  have hzeros (l : Key) (s : Sid) (hsame : ∀ (j : Nat) (h : j < 5), l[11 + j] = s[j]) (j : Nat) (hj : j < 5) :
      (kdf l s)[11 + j] = 0 := by
    rw [kdf_getElem_tail l s hj, hsame j hj, BitVec.xor_self]
    rfl
  refine ⟨fun l => ?zeroSid, fun l s => ?twice, fun l s s' i hi => ?head, ?ones,
    fun l s hsame => ⟨hzeros l s hsame, fun hhead => ?zeroKey⟩⟩
  case zeroSid => exact key_ext (hkept l _) fun j hj => by simp [kdf_getElem_tail l _ hj]
  case twice =>
    refine key_ext (fun i hi => (hkept _ s i hi).trans (hkept l s i hi)) fun j hj => ?_
    rw [kdf_getElem_tail _ s hj, kdf_getElem_tail l s hj, BitVec.xor_assoc, BitVec.xor_self, BitVec.xor_zero]
  case head => rw [hkept l s i hi, hkept l s' i hi]
  case ones => decide +kernel
  case zeroKey =>
    refine key_ext (fun i hi => ?_) fun j hj => ?_
    · rw [hkept l s i hi, hhead i hi, Vector.getElem_replicate]
    · rw [hzeros l s hsame j hj, Vector.getElem_replicate]

/-! ### The S-box -/

/-- R123: the affine map of the S-box, solved for its argument. -/
def sboxUnaffine (b : Byte) : Byte := b.rotateLeft 1 ^^^ b.rotateLeft 3 ^^^ b.rotateLeft 6 ^^^ 0x05

theorem sboxAffine_sboxUnaffine : ∀ b : Byte, sboxAffine (sboxUnaffine b) = b := by decide +kernel

/-- R122, R123: the 254th powers, read off the S-box table. -/
theorem gfInv_eq : ∀ a : Byte, gfInv a = sboxUnaffine (sbox a) := by decide +kernel

theorem gfMul_sboxUnaffine_sbox : ∀ a : Byte, gfMul a (sboxUnaffine (sbox a)) = if a = 0 then 0 else 1 := by
  decide +kernel

/-- Settles O24: the table holds the affine images of the powers, and those are inverses. -/
theorem sboxTablesFollowTheirFormula : Obligations.SboxTablesFollowTheirFormula := by
  intro a
  rw [gfInv_eq, sboxAffine_sboxUnaffine]
  exact ⟨gfMul_sboxUnaffine_sbox a, rfl, RoundTransformations.invSbox_sbox a⟩

/-! ### Padding and chaining -/

theorem padLen_false (n : Nat) : padLen false n = 16 * ((n + 15) / 16) := rfl

theorem padLen_true (n : Nat) : padLen true n = 16 * (n / 16 + 1) := rfl

/-- Settles O25: the two settings round up, one of them strictly. -/
theorem paddedLengthRoundsUp : Obligations.PaddedLengthRoundsUp := by
  intro n
  refine ⟨⟨dvd_padLen false n, le_padLen false n, ?_⟩, ⟨dvd_padLen true n, ?_, ?_⟩, ?_⟩
  all_goals
    simp only [padLen_false, padLen_true]
    omega

theorem hi8_xor (a b : Sys2Proof.Seq) : hi8 (a ^^^ b) = hi8 a ^^^ hi8 b := BitVec.extractLsb'_xor

theorem lo8_xor (a b : Sys2Proof.Seq) : lo8 (a ^^^ b) = lo8 a ^^^ lo8 b := BitVec.extractLsb'_xor

/-- Changing one XOR mask for another is XORing with both. -/
theorem xor_eq_xor_xor_xor (x a b : Byte) : x ^^^ b = x ^^^ a ^^^ (a ^^^ b) := by
  rw [BitVec.xor_assoc, ← BitVec.xor_assoc a, BitVec.xor_self, BitVec.zero_xor]

/-- Settles O28: the sequence number enters decryption only as the whitening of bytes 0 and 1. -/
theorem wrongSequenceChangesTwoBytes : Obligations.WrongSequenceChangesTwoBytes := by
  intro k s s' c
  refine ⟨?_, ?_, fun i hi htwo => ?_⟩
  · rw [chainDec, chainDec, whiten_getElem_zero, whiten_getElem_zero, hi8_xor]
    exact xor_eq_xor_xor_xor ..
  · rw [chainDec, chainDec, whiten_getElem_one, whiten_getElem_one, lo8_xor]
    exact xor_eq_xor_xor_xor ..
  · rw [chainDec, chainDec, whiten_getElem_of_two_le _ _ _ hi htwo, whiten_getElem_of_two_le _ _ _ hi htwo]

/-! ### Reset -/

/-- Settles O43: the thirteen fields of `State.reset`. -/
theorem resetValues : Obligations.ResetValues :=
  ⟨rfl, rfl, rfl, rfl, rfl, rfl, rfl, rfl, rfl, rfl, rfl, rfl, rfl⟩

end Sys2Proof.Proofs.PureLaws
end

section
/-! The keys are not shown (spec/10_state.md R41, spec/46_control.md R253, spec/60_exceptions.md R284), as statements
about two runs: in a state with other keys, an instruction that does not read them does the same but for the keys. -/

namespace Sys2Proof.Proofs.KeysNotShown
open Sys2Proof Sys2Proof.Machine
open Sys2Proof.Proofs.SessionCommands Sys2Proof.Proofs.ResponseEvents Sys2Proof.Proofs.StatefulCommands

/-- The state with other values of LTK, SK and SID. -/
def mapKeys (f g : Key → Key) (h : Sid → Sid) (s : State) : State :=
  { s with ltk := f s.ltk, sk := g s.sk, sid := h s.sid }

theorem fail_mapKeys (f g : Key → Key) (h : Sid → Sid) (code : Err) (s : State) :
    fail code (mapKeys f g h s) = mapKeys f g h (fail code s) := by
  by_cases hs : s.hsState = .failed
  · rw [fail_sticky code hs]
    exact fail_sticky code hs
  · rw [fail_live code hs]
    exact fail_live code hs

theorem headerCheck_mapKeys (f g : Key → Key) (h : Sid → Sid) (expected : Byte) (s : State) :
    headerCheck expected (mapKeys f g h s) = mapKeys f g h (headerCheck expected s) := by
  simp only [headerCheck, fail_mapKeys, apply_ite (mapKeys f g h)]
  rfl

/-- R210: a byte that completes no exchange is accepted without a key. -/
theorem acceptByte_mapKeys (f g : Key → Key) (h : Sid → Sid) (b : Byte) {s : State}
    (h10 : ¬ (s.hsState = .awaitNsAck ∧ s.rxCnt = 10)) (h19 : ¬ (s.hsState = .awaitSsAck ∧ s.rxCnt = 19)) :
    acceptByte b (mapKeys f g h s) = mapKeys f g h (acceptByte b s) := by
  have pred {m : BitVec 5} (hnext : s.rxCnt + 1 = m) : s.rxCnt = m - 1 := by simp [← hnext]
  by_cases h3 : s.rxCnt = 3
  · rw [acceptByte_header b s h3, ← headerCheck_mapKeys]
    exact acceptByte_header b (mapKeys f g h s) h3
  · have hheader : s.rxCnt + 1 ≠ 4 := fun h => h3 (pred h)
    have hexchange1 (hs : s.hsState = .awaitNsAck) : s.rxCnt + 1 ≠ 11 := fun h => h10 ⟨hs, pred h⟩
    have hexchange2 (hs : s.hsState = .awaitSsAck) : s.rxCnt + 1 ≠ 20 := fun h => h19 ⟨hs, pred h⟩
    rw [acceptByte_store b s hheader hexchange1 hexchange2]
    exact acceptByte_store b (mapKeys f g h s) hheader hexchange1 hexchange2

/-- R219: CLOSE reads no key, and outside ESTABLISHED it writes none. -/
theorem closeSession_mapKeys (f g : Key → Key) (h : Sid → Sid) {s : State} (hs : s.hsState ≠ .established) :
    closeSession (mapKeys f g h s) = mapKeys f g h (closeSession s) := by
  cases hstate : s.hsState with
  | disconnected =>
    rw [closeSession_disconnected hstate]
    exact closeSession_disconnected hstate
  | awaitNsAck =>
    rw [closeSession_awaiting (.inl hstate)]
    exact closeSession_awaiting (.inl hstate)
  | awaitSsAck =>
    rw [closeSession_awaiting (.inr hstate)]
    exact closeSession_awaiting (.inr hstate)
  | established => exact absurd hstate hs
  | failed =>
    rw [closeSession_failed hstate]
    exact closeSession_failed hstate

/-- A check that does not look at the keys goes the same way in both runs. -/
theorem next_of_stateCheck {legal : Prop} [Decidable legal] (F : State → State) {a b t : State}
    (h : (if legal then .next a else .next b : Host.Outcome State Fault Refusal) = .next t) :
    (if legal then .next (F a) else .next (F b) : Host.Outcome State Fault Refusal) = .next (F t) := by
  by_cases hlegal : legal
  · rw [if_pos hlegal] at h ⊢
    cases h
    rfl
  · rw [if_neg hlegal] at h ⊢
    cases h
    rfl

/-- The instructions that read or write LTK, SK or SID in some state. -/
def usesKeys : Instr → Bool
  | .loadLtk _ | .newSession | .close | .readSk | .send _ _ | .rxByte _ | .reset => true
  | _ => false

theorem exec_mapKeys (f g : Key → Key) (h : Sid → Sid) {i : Instr} {s t : State} (hi : usesKeys i = false)
    (hexec : exec i s = .next t) : exec i (mapKeys f g h s) = .next (mapKeys f g h t) := by
  cases i with
  | loadLtk | newSession | close | readSk | send | rxByte | reset => nomatch hi
  | hsStart => exact next_of_stateCheck (mapKeys f g h) hexec
  | tErr k =>
    rw [exec, execTErr, fail_mapKeys]
    exact next_of_stateCheck (mapKeys f g h) hexec
  | _ =>
    cases hexec
    rfl

/-- CLOSE answers the same after the same effect. -/
theorem exec_close_of_eq {F : State → State} {s t : State} (hclose : closeSession (F s) = F (closeSession s))
    (hanswer : ∀ s, answered [0x00, 0x00] (F s) = F (answered [0x00, 0x00] s)) (hexec : exec .close s = .next t) :
    exec .close (F s) = .next (F t) := by
  rw [exec_close] at hexec ⊢
  cases hexec
  rw [hclose, hanswer]

/-- An RX byte is taken in the same states, so an acceptance that is the same makes the instruction the same. -/
theorem exec_rxByte_mapKeys (f g : Key → Key) (h : Sid → Sid) {b : Byte} {s t : State}
    (haccept : acceptByte b (mapKeys f g h s) = mapKeys f g h (acceptByte b s)) (hexec : exec (.rxByte b) s = .next t) :
    exec (.rxByte b) (mapKeys f g h s) = .next (mapKeys f g h t) := by
  rw [exec, execRxByte, haccept]
  exact next_of_stateCheck (mapKeys f g h) hexec

/-! ### LTK -/

/-- The state with the long-term key `l`. -/
def withLtk (l : Key) (s : State) : State := mapKeys (fun _ => l) id id s

theorem closeSession_withLtk (l : Key) (s : State) : closeSession (withLtk l s) = withLtk l (closeSession s) := by
  by_cases hs : s.hsState = .established
  · rw [closeSession_established hs]
    exact closeSession_established hs
  · exact closeSession_mapKeys _ _ _ hs

/-- R216: T4 reads SK and SID, and not LTK. -/
theorem completeExchange2_withLtk (l : Key) (s : State) :
    completeExchange2 (withLtk l s) = withLtk l (completeExchange2 s) := by
  simp only [completeExchange2, withLtk, fail_mapKeys, apply_ite (mapKeys (fun _ => l) id id)]
  rfl

/-- R213: of the bytes of a response, only the 11th of exchange 1 uses LTK. -/
theorem acceptByte_withLtk (l : Key) (b : Byte) {s : State} (h10 : ¬ (s.hsState = .awaitNsAck ∧ s.rxCnt = 10)) :
    acceptByte b (withLtk l s) = withLtk l (acceptByte b s) := by
  by_cases h19 : s.hsState = .awaitSsAck ∧ s.rxCnt = 19
  · rw [acceptByte_exchange2 b s h19.1 h19.2, ← completeExchange2_withLtk]
    exact acceptByte_exchange2 b (withLtk l s) h19.1 h19.2
  · exact acceptByte_mapKeys _ _ _ b h10 h19

/-- R251, R300: the two writers of LTK write the same over any key. -/
theorem exec_withLtk_of_writer {i : Instr} {s t : State} (l : Key) (hi : (∃ l', i = .loadLtk l') ∨ i = .reset)
    (hexec : exec i s = .next t) :
    exec i (withLtk l s) = .next t ∨ exec i (withLtk l s) = .next (withLtk l t) := by
  obtain ⟨l', rfl⟩ | rfl := hi
  · by_cases hs : s.hsState = .disconnected ∨ s.hsState = .failed
    · left
      rw [exec_loadLtk_legal l' hs] at hexec
      cases hexec
      exact exec_loadLtk_legal l' hs
    · right
      rw [exec_loadLtk_refused l' hs] at hexec
      cases hexec
      exact exec_loadLtk_refused l' hs
  · left
    cases hexec
    rfl

/-- Settles O54: only exchange 1 reads LTK, and where an instruction writes LTK both runs write the same. -/
theorem longTermKeyIsNeverShown : Obligations.LongTermKeyIsNeverShown := by
  intro i s t l hexec h10
  have hidden (h : exec i (withLtk l s) = .next t ∨ exec i (withLtk l s) = .next (withLtk l t)) :
      ∃ t', exec i { s with ltk := l } = .next t' ∧ t' = { t with ltk := t'.ltk } :=
    h.elim (⟨_, ·, rfl⟩) (⟨_, ·, rfl⟩)
  refine hidden ?_
  cases i with
  | loadLtk l' => exact exec_withLtk_of_writer l (.inl ⟨l', rfl⟩) hexec
  | reset => exact exec_withLtk_of_writer l (.inr rfl) hexec
  | newSession | readSk | send => exact .inr (next_of_stateCheck (withLtk l) hexec)
  | close => exact .inr (exec_close_of_eq (closeSession_withLtk l s) (fun _ => rfl) hexec)
  | rxByte b => exact .inr (exec_rxByte_mapKeys _ _ _ (acceptByte_withLtk l b (h10 b rfl)) hexec)
  | _ => exact .inr (exec_mapKeys _ _ _ rfl hexec)

/-! ### SK and SID -/

/-- The state with the session key `sk` and the session identifier `sid`. -/
def withSession (sk : Key) (sid : Sid) (s : State) : State := mapKeys id (fun _ => sk) (fun _ => sid) s

/-- R221: NEW_SESSION clears SK and SID, whatever they were. -/
theorem exec_newSession_withSession (sk : Key) (sid : Sid) {s t : State} (hexec : exec .newSession s = .next t) :
    exec .newSession (withSession sk sid s) = .next t ∨
      exec .newSession (withSession sk sid s) = .next (withSession sk sid t) := by
  by_cases hs : s.hsState = .disconnected ∧ s.tOpen = false ∨ s.hsState = .failed
  · left
    rw [exec_newSession_legal hs] at hexec
    cases hexec
    exact exec_newSession_legal hs
  · right
    rw [exec_newSession_refused hs] at hexec
    cases hexec
    exact exec_newSession_refused hs

/-- R213: exchange 1 overwrites SK and SID without reading them. -/
theorem exec_rxByte_withSession (sk : Key) (sid : Sid) {b : Byte} {s t : State}
    (h19 : ¬ (s.hsState = .awaitSsAck ∧ s.rxCnt = 19)) (hexec : exec (.rxByte b) s = .next t) :
    exec (.rxByte b) (withSession sk sid s) = .next t ∨
      exec (.rxByte b) (withSession sk sid s) = .next (withSession sk sid t) := by
  by_cases h10 : s.hsState = .awaitNsAck ∧ s.rxCnt = 10
  · left
    rw [exec_rxByte_awaiting b (.inl h10.1), acceptByte_exchange1 b s h10.1 h10.2] at hexec
    cases hexec
    rw [exec_rxByte_awaiting (s := withSession sk sid s) b (.inl h10.1),
      acceptByte_exchange1 b (withSession sk sid s) h10.1 h10.2, completeExchange1_eq, completeExchange1_eq]
    rfl
  · exact .inr (exec_rxByte_mapKeys _ _ _ (acceptByte_mapKeys _ _ _ b h10 h19) hexec)

/-- Settles O55: outside ESTABLISHED and exchange 2 no instruction reads SK or SID, and where one writes them both runs
write the same. -/
theorem sessionKeyIsHiddenUntilEstablished : Obligations.SessionKeyIsHiddenUntilEstablished := by
  intro i s t sk sid hexec hs h19
  have hidden (h : exec i (withSession sk sid s) = .next t ∨
        exec i (withSession sk sid s) = .next (withSession sk sid t)) :
      ∃ t', exec i { s with sk := sk, sid := sid } = .next t' ∧ t' = { t with sk := t'.sk, sid := t'.sid } :=
    h.elim (⟨_, ·, rfl⟩) (⟨_, ·, rfl⟩)
  refine hidden ?_
  cases i with
  | newSession => exact exec_newSession_withSession sk sid hexec
  | reset =>
    cases hexec
    exact .inl rfl
  | loadLtk => exact .inr (next_of_stateCheck (withSession sk sid) hexec)
  | readSk =>
    rw [ControlCommands.exec_readSk_refused hs] at hexec
    cases hexec
    exact .inr (ControlCommands.exec_readSk_refused hs)
  | send y p =>
    rw [exec_send_refused y p hs] at hexec
    cases hexec
    exact .inr (exec_send_refused y p hs)
  | close => exact .inr (exec_close_of_eq (closeSession_mapKeys _ _ _ hs) (fun _ => rfl) hexec)
  | rxByte b => exact exec_rxByte_withSession sk sid (h19 b rfl) hexec
  | _ => exact .inr (exec_mapKeys _ _ _ rfl hexec)

end Sys2Proof.Proofs.KeysNotShown
end

section
/-! The assembler (spec/30_encoding.md R100, R101): a line is its words, the words of an instruction's line are read
back as that instruction, and whatever a line assembles to is the encoding of well-formed instructions. -/

namespace Sys2Proof.Proofs.Assembler
open Sys2Proof Sys2Proof.Machine

/-! ### A line and its words -/

/-- A word of a line: not empty, with no gap and no comment in it. -/
def isWord (w : List Char) : Bool := !w.isEmpty && w.all fun c => !isGap c && c != ';'

theorem ne_nil_of_isWord {w : List Char} (h : isWord w = true) : w ≠ [] := by
  rintro rfl
  nomatch h

theorem isWord_iff (w : List Char) : isWord w = true ↔ w ≠ [] ∧ ∀ c ∈ w, isGap c = false ∧ c ≠ ';' := by
  simp [isWord]

theorem isGap_of_isWord {w : List Char} (h : isWord w = true) : ∀ c ∈ w, isGap c = false := fun c hc =>
  (((isWord_iff w).mp h).2 c hc).1

theorem ne_comment_of_isWord {w : List Char} (h : isWord w = true) : ∀ c ∈ w, c ≠ ';' := fun c hc =>
  (((isWord_iff w).mp h).2 c hc).2

/-- The operands of a line, separated as R100 writes them. -/
def operandsText : List (List Char) → List Char
  | [] => []
  | [a] => a
  | a :: rest => a ++ ',' :: ' ' :: operandsText rest

/-- A line of R100: the mnemonic and, after a blank, its operands. -/
def wordsText (m : List Char) : List (List Char) → List Char
  | [] => m
  | operands => m ++ ' ' :: operandsText operands

theorem splitWords_operandsText {operands : List (List Char)} (h : ∀ a ∈ operands, isWord a = true) :
    splitWords [] (operandsText operands) = operands := by
  induction operands with
  | nil => rfl
  | cons a rest ih =>
    obtain ⟨ha, hrest⟩ := List.forall_mem_cons.mp h
    cases rest with
    | nil => exact splitWords_last (isGap_of_isWord ha) (ne_nil_of_isWord ha)
    | cons b rest =>
      rw [operandsText, splitWords_word (isGap_of_isWord ha) (ne_nil_of_isWord ha) rfl, splitWords_gap rfl, ih hrest]
      simp

theorem splitWords_wordsText {m : List Char} {operands : List (List Char)} (hm : isWord m = true)
    (h : ∀ a ∈ operands, isWord a = true) : splitWords [] (wordsText m operands) = m :: operands := by
  cases operands with
  | nil => exact splitWords_last (isGap_of_isWord hm) (ne_nil_of_isWord hm)
  | cons a rest =>
    rw [wordsText, splitWords_word (isGap_of_isWord hm) (ne_nil_of_isWord hm) rfl, splitWords_operandsText h]
    simp

theorem ne_comment_of_mem_operandsText {operands : List (List Char)} (h : ∀ a ∈ operands, isWord a = true) :
    ∀ c ∈ operandsText operands, c ≠ ';' := by
  induction operands with
  | nil => simp [operandsText]
  | cons a rest ih =>
    obtain ⟨ha, hrest⟩ := List.forall_mem_cons.mp h
    cases rest with
    | nil => exact ne_comment_of_isWord ha
    | cons b rest =>
      intro c hc
      simp only [operandsText, List.mem_append, List.mem_cons] at hc
      rcases hc with hc | rfl | rfl | hc
      · exact ne_comment_of_isWord ha c hc
      · decide
      · decide
      · exact ih hrest c (by simpa [operandsText] using hc)

theorem ne_comment_of_mem_wordsText {m : List Char} {operands : List (List Char)} (hm : isWord m = true)
    (h : ∀ a ∈ operands, isWord a = true) : ∀ c ∈ wordsText m operands, c ≠ ';' := by
  cases operands with
  | nil => exact ne_comment_of_isWord hm
  | cons a rest =>
    intro c hc
    simp only [wordsText, List.mem_append, List.mem_cons] at hc
    rcases hc with hc | rfl | hc
    · exact ne_comment_of_isWord hm c hc
    · decide
    · exact ne_comment_of_mem_operandsText h c hc

/-- What stands after the last word of a line: nothing, or a comment. -/
def IsComment (comment : String) : Prop := comment = "" ∨ ∃ c : String, comment = ";" ++ c

/-- R100: a comment is dropped. -/
theorem takeWhile_comment {cs : List Char} {comment : String} (hcs : ∀ c ∈ cs, c ≠ ';') (hcomment : IsComment comment) :
    (cs ++ comment.toList).takeWhile (· ≠ ';') = cs := by
  rw [List.takeWhile_append_of_pos (by simpa using hcs)]
  rcases hcomment with rfl | ⟨c, rfl⟩ <;> simp

/-! ### The requester -/

/-- A line that starts with a word other than `@r:` is by requester 0. -/
theorem splitRequester_none {c : Char} (hgap : isGap c = false) (hat : c ≠ '@') (cs : List Char) :
    splitRequester (c :: cs) = some (0, c :: cs) := by
  have hdrop : (c :: cs).dropWhile isGap = c :: cs := by simp [hgap]
  rw [splitRequester, hdrop]
  split
  · next h => exact absurd (List.cons.inj h).1 hat
  · rfl

theorem digit_ne_colon : ∀ d : Fin 10, hexChar d.val ≠ ':' ∧ hexChar d.val ≠ ';' := by decide

/-- R100: the digits after `@` name the requester. -/
theorem splitRequester_digits {digits : List (Fin 10)} (hdigits : digits ≠ []) {cs : List Char}
    (hcs : cs.all isGap = false) :
    splitRequester ('@' :: (digits.map fun d => hexChar d.val) ++ ':' :: cs) = some (decimalValue digits, cs) := by
  have htake : ((digits.map fun d => hexChar d.val) ++ ':' :: cs).takeWhile (· ≠ ':') =
      digits.map fun d => hexChar d.val := by
    rw [List.takeWhile_append_of_pos (by simpa using fun d _ => (digit_ne_colon d).1)]
    simp
  have hdrop : ((digits.map fun d => hexChar d.val) ++ ':' :: cs).drop
      ((digits.map fun d => hexChar d.val).length + 1) = cs := by
    rw [← List.drop_drop, List.drop_left]
    rfl
  have hat : ('@' :: (digits.map fun d => hexChar d.val) ++ ':' :: cs).dropWhile isGap =
      '@' :: ((digits.map fun d => hexChar d.val) ++ ':' :: cs) := rfl
  rw [splitRequester, hat]
  simp only [htake, hdrop, hcs, decimal_digits]
  simp [hdigits, decimalValue]

/-! ### The words of an instruction -/

theorem isWord_hexChars {bytes : List Byte} (h : bytes ≠ []) : isWord (hexChars bytes) = true := by
  refine (isWord_iff _).mpr ⟨?_, fun c hc => ⟨isGap_of_mem_hexChars c hc, ne_comment_of_mem_hexChars c hc⟩⟩
  cases bytes with
  | nil => exact absurd rfl h
  | cons => simp [hexChars]

theorem isWord_named {name : List Char} (hname : isWord name = true) (bytes : List Byte) :
    isWord (name ++ hexChars bytes) = true := by
  refine (isWord_iff _).mpr ⟨by simp [ne_nil_of_isWord hname], fun c hc => ?_⟩
  rcases List.mem_append.mp hc with hc | hc
  · exact ⟨isGap_of_isWord hname c hc, ne_comment_of_isWord hname c hc⟩
  · exact ⟨isGap_of_mem_hexChars c hc, ne_comment_of_mem_hexChars c hc⟩

theorem length_hexChars (bytes : List Byte) : (hexChars bytes).length = 2 * bytes.length := by
  induction bytes with
  | nil => rfl
  | cons b bytes ih => simp [hexChars, ih]; omega

/-- R101: `key=<hex>` is not `key=absent`. -/
theorem frameKey_hexChars (k : Key) : frameKey (hexChars k.toList) = some (true, k) := by
  have habsent : hexChars k.toList ≠ "absent".toList := fun h => by
    simpa [length_hexChars] using congrArg List.length h
  rw [frameKey, if_neg habsent, hexField_hexChars]
  rfl

/-- R100: `text` is a mnemonic and its operands, and its words read as the instructions `is`. -/
def HasWords (text : List Char) (is : List Instr) : Prop :=
  ∃ (m : List Char) (operands : List (List Char)), text = wordsText m operands ∧ isWord m = true ∧ m.head? ≠ some '@' ∧
    (∀ a ∈ operands, isWord a = true) ∧ assembleWords (m :: operands) = some is

theorem HasWords.ne_comment {text : List Char} {is : List Instr} (h : HasWords text is) : ∀ c ∈ text, c ≠ ';' := by
  obtain ⟨m, operands, rfl, hm, -, hoperands, -⟩ := h
  exact ne_comment_of_mem_wordsText hm hoperands

theorem HasWords.assembleWords {text : List Char} {is : List Instr} (h : HasWords text is) :
    assembleWords (splitWords [] text) = some is := by
  obtain ⟨m, operands, rfl, hm, -, hoperands, hwords⟩ := h
  rw [splitWords_wordsText hm hoperands, hwords]

/-- A line of an instruction starts with its mnemonic. -/
theorem HasWords.starts {text : List Char} {is : List Instr} (h : HasWords text is) :
    ∃ c cs, text = c :: cs ∧ isGap c = false ∧ c ≠ '@' := by
  obtain ⟨m, operands, rfl, hm, hat, -, -⟩ := h
  match m, ne_nil_of_isWord hm with
  | c :: m, _ =>
    refine ⟨c, wordsText m operands, ?_, isGap_of_isWord hm c (by simp), by simpa using hat⟩
    cases operands <;> rfl

theorem assembleLine_eq {line : String} {r : Nat} {cs : List Char} {is : List Instr}
    (hrequester : splitRequester (line.toList.takeWhile (· ≠ ';')) = some (r, cs))
    (hwords : assembleWords (splitWords [] cs) = some is) :
    assembleLine line = if is.all WellFormed then .ok (is.map (encode r)) else .error .length := by
  simp only [assembleLine, hrequester, hwords]

/-- R100: a line without a requester, with or without a comment. -/
theorem assembleLine_text {text comment : String} {is : List Instr} (h : HasWords text.toList is)
    (hcomment : IsComment comment) :
    assembleLine (text ++ comment) = if is.all WellFormed then .ok (is.map (encode 0)) else .error .length := by
  refine assembleLine_eq ?_ h.assembleWords
  obtain ⟨c, cs, htext, hgap, hat⟩ := h.starts
  rw [String.toList_append, takeWhile_comment h.ne_comment hcomment, htext, splitRequester_none hgap hat]

/-- R100: a line by the requester whose digits stand after `@`. -/
theorem assembleLine_requester {text comment : String} {is : List Instr} (h : HasWords text.toList is)
    (hcomment : IsComment comment) {digits : List (Fin 10)} (hdigits : digits ≠ []) :
    assembleLine ("@" ++ decimalText digits ++ ":" ++ text ++ comment) =
      if is.all WellFormed then .ok (is.map (encode (decimalValue digits))) else .error .length := by
  refine assembleLine_eq ?_ h.assembleWords
  have hchars : ("@" ++ decimalText digits ++ ":" ++ text ++ comment).toList =
      ('@' :: (digits.map fun d => hexChar d.val) ++ ':' :: text.toList) ++ comment.toList := by
    simp [decimalText]
  have hplain : ∀ c ∈ '@' :: (digits.map fun d => hexChar d.val) ++ ':' :: text.toList, c ≠ ';' := by
    simp only [List.cons_append, List.forall_mem_cons, List.forall_mem_append, List.forall_mem_map]
    exact ⟨by decide, fun d _ => (digit_ne_colon d).2, by decide, h.ne_comment⟩
  obtain ⟨c, cs, htext, hgap, -⟩ := h.starts
  rw [hchars, takeWhile_comment hplain hcomment]
  exact splitRequester_digits hdigits (by simp [htext, hgap])

/-! ### The lines of R100 -/

theorem assembleTwo_kdf (l : Key) (sid : Sid) :
    assembleTwo "KDF".toList ("ltk=".toList ++ hexChars l.toList) ("sid=".toList ++ hexChars sid.toList) =
      some (.kdf l sid) := by
  rw [assembleTwo, if_pos rfl]
  simp only [named_append, Option.bind_eq_bind, Option.bind_some, hexField_hexChars]

theorem assembleTwo_chainEnc (k : Key) (buf : List Byte) :
    assembleTwo "CHAIN_ENC".toList ("key=".toList ++ hexChars k.toList) ("buf=".toList ++ hexChars buf) =
      some (.chainEnc k buf) := by
  rw [assembleTwo, if_neg (by decide), if_pos rfl]
  simp only [named_append, Option.bind_eq_bind, Option.bind_some, hexField_hexChars, hexBytes_hexChars]

theorem assembleTwo_send (t : Byte) (p : List Byte) :
    assembleTwo "SEND".toList ("type=".toList ++ hexChars [t]) ("payload=".toList ++ hexChars p) =
      some (.send t p) := by
  rw [assembleTwo, if_neg (by decide), if_neg (by decide), if_pos rfl]
  simp only [named_append, Option.bind_eq_bind, Option.bind_some, hexByte_hexChars, hexBytes_hexChars]

theorem assembleThree_chainDec (k : Key) (sq : Sys2Proof.Seq) (blk : Block) :
    assembleThree "CHAIN_DEC".toList ("key=".toList ++ hexChars k.toList) ("seq=".toList ++ hexChars (enc16 sq))
      ("blk=".toList ++ hexChars blk.toList) = some (.chainDec k sq blk) := by
  rw [assembleThree, if_pos rfl]
  simp only [named_append, Option.bind_eq_bind, Option.bind_some, hexField_hexChars, hexSeq_hexChars]

theorem assembleFour_frame (sq : Sys2Proof.Seq) (t : Byte) {key : List Char} {kp : Bool} {k : Key} (p : List Byte)
    (hkey : frameKey key = some (kp, k)) :
    assembleFour "FRAME".toList ("seq=".toList ++ hexChars (enc16 sq)) ("type=".toList ++ hexChars [t])
      ("key=".toList ++ key) ("payload=".toList ++ hexChars p) = some (.frame sq t kp k p) := by
  rw [assembleFour, if_pos rfl]
  simp only [named_append, Option.bind_eq_bind, Option.bind_some, hexSeq_hexChars, hexByte_hexChars, hkey,
    hexBytes_hexChars]

theorem assembleOne_loadLtk (l : Key) : assembleOne "LOAD_LTK".toList (hexChars l.toList) = some [.loadLtk l] := by
  rw [assembleOne, if_pos rfl, hexField_hexChars]
  rfl

theorem assembleOne_rxb (b : Byte) : assembleOne "RXB".toList (hexChars [b]) = some [.rxByte b] := by
  rw [assembleOne, if_neg (by decide), if_pos rfl, hexByte_hexChars]
  rfl

theorem assembleOne_rx (bytes : List Byte) : assembleOne "RX".toList (hexChars bytes) = some (bytes.map .rxByte) := by
  rw [assembleOne, if_neg (by decide), if_neg (by decide), if_pos rfl, hexBytes_hexChars]
  rfl

theorem toList_ne_nil {n : Nat} (v : Vector Byte (n + 1)) : v.toList ≠ [] := fun h => by
  simpa using congrArg List.length h

/-- A line whose operands are all written `name=<hex>`. -/
theorem hasWords_fields {text : List Char} {is : List Instr} (m : String) (names : List String)
    (values : List (List Byte)) (hm : isWord m.toList = true) (hat : m.toList.head? ≠ some '@')
    (hnames : names.all (fun n => isWord n.toList) = true)
    (htext : text = wordsText m.toList (List.zipWith (fun n v => n.toList ++ hexChars v) names values))
    (hwords : assembleWords (m.toList :: List.zipWith (fun n v => n.toList ++ hexChars v) names values) = some is) :
    HasWords text is := by
  refine ⟨_, _, htext, hm, hat, fun a ha => ?_, hwords⟩
  obtain ⟨i, hi, rfl⟩ := List.getElem_of_mem ha
  rw [List.getElem_zipWith]
  exact isWord_named (List.all_eq_true.mp hnames _ (List.getElem_mem _)) _

/-- R100, R101: FRAME with no key. -/
theorem hasWords_frame_absent (sq : Sys2Proof.Seq) (t : Byte) (p : List Byte) :
    HasWords ("FRAME seq=" ++ hexText (enc16 sq) ++ ", type=" ++ hexText [t] ++ ", key=absent, payload=" ++
      hexText p).toList [.frame sq t false (zeroVec 16) p] := by
  refine ⟨"FRAME".toList, ["seq=".toList ++ hexChars (enc16 sq), "type=".toList ++ hexChars [t],
    "key=".toList ++ "absent".toList, "payload=".toList ++ hexChars p], by simp [hexText, wordsText, operandsText],
    by decide, by decide, ?_, congrArg (Option.map fun i => [i]) (assembleFour_frame sq t p rfl)⟩
  simp only [List.forall_mem_cons]
  exact ⟨isWord_named (by decide) _, isWord_named (by decide) _, by decide, isWord_named (by decide) _, by simp⟩

/-- R100: every line form, by its words. -/
theorem hasWords_lineText {i : Instr} {text : String} (h : lineText i = some text) : HasWords text.toList [i] := by
  have one {a : Option Instr} (ha : a = some i) : (a.map fun i => [i]) = some [i] := by rw [ha]; rfl
  cases i with
  | nop | newSession | hsStart | close | readStatus | readSk | seqNext | reset =>
    obtain rfl := Option.some.inj h
    exact ⟨_, [], rfl, by decide, by decide, by decide, rfl⟩
  | tErr k =>
    cases k with
    | read =>
      obtain rfl := Option.some.inj h
      exact ⟨"TERR".toList, ["read".toList], rfl, by decide, by decide, by decide, rfl⟩
    | write =>
      obtain rfl := Option.some.inj h
      exact ⟨"TERR".toList, ["write".toList], rfl, by decide, by decide, by decide, rfl⟩
    | eof =>
      obtain rfl := Option.some.inj h
      exact ⟨"TERR".toList, ["eof".toList], rfl, by decide, by decide, by decide, rfl⟩
  | loadLtk l =>
    obtain rfl := Option.some.inj h
    exact ⟨"LOAD_LTK".toList, [hexChars l.toList], by simp [hexText, wordsText, operandsText], by decide, by decide,
      List.forall_mem_singleton.mpr (isWord_hexChars (toList_ne_nil l)), assembleOne_loadLtk l⟩
  | rxByte b =>
    obtain rfl := Option.some.inj h
    exact ⟨"RXB".toList, [hexChars [b]], by simp [hexText, wordsText, operandsText], by decide, by decide,
      List.forall_mem_singleton.mpr (isWord_hexChars (List.cons_ne_nil b [])), assembleOne_rxb b⟩
  | kdf l sid =>
    obtain rfl := Option.some.inj h
    exact hasWords_fields "KDF" ["ltk=", "sid="] [l.toList, sid.toList] (by decide) (by decide) (by decide)
      (by simp [hexText, wordsText, operandsText]) (one (assembleTwo_kdf l sid))
  | chainEnc k buf =>
    obtain rfl := Option.some.inj h
    exact hasWords_fields "CHAIN_ENC" ["key=", "buf="] [k.toList, buf] (by decide) (by decide) (by decide)
      (by simp [hexText, wordsText, operandsText]) (one (assembleTwo_chainEnc k buf))
  | send t p =>
    obtain rfl := Option.some.inj h
    exact hasWords_fields "SEND" ["type=", "payload="] [[t], p] (by decide) (by decide) (by decide)
      (by simp [hexText, wordsText, operandsText]) (one (assembleTwo_send t p))
  | chainDec k sq blk =>
    obtain rfl := Option.some.inj h
    exact hasWords_fields "CHAIN_DEC" ["key=", "seq=", "blk="] [k.toList, enc16 sq, blk.toList] (by decide) (by decide)
      (by decide) (by simp [hexText, wordsText, operandsText]) (one (assembleThree_chainDec k sq blk))
  | frame sq t kp k p =>
    cases kp with
    | true =>
      obtain rfl := Option.some.inj h
      exact hasWords_fields "FRAME" ["seq=", "type=", "key=", "payload="] [enc16 sq, [t], k.toList, p] (by decide)
        (by decide) (by decide) (by simp [hexText, wordsText, operandsText])
        (one (assembleFour_frame sq t p (frameKey_hexChars k)))
    | false =>
      rw [lineText] at h
      split at h
      · next hk =>
        obtain rfl := Option.some.inj h
        exact hk ▸ hasWords_frame_absent sq t p
      · nomatch h
  | reserved07 | reserved08 | reserved15 | reserved16 | reserved18 | reserved21 | reserved22 | reserved24 | reserved28
  | reserved30 | reserved40 | reserved80 => nomatch h

/-- R101: RX with at least one byte. -/
theorem hasWords_rx {bytes : List Byte} (h : bytes ≠ []) :
    HasWords ("RX " ++ hexText bytes).toList (bytes.map .rxByte) :=
  ⟨"RX".toList, [hexChars bytes], by simp [hexText, wordsText, operandsText], by decide, by decide,
    List.forall_mem_singleton.mpr (isWord_hexChars h), assembleOne_rx bytes⟩

/-! ### Whatever assembles -/

/-- The inputs of a line are the encodings of well-formed instructions, read from its words. -/
theorem eq_map_encode_of_assembleLine {line : String} {inputs : List Input} (h : assembleLine line = .ok inputs) :
    ∃ r cs is, splitRequester (line.toList.takeWhile (· ≠ ';')) = some (r, cs) ∧
      assembleWords (splitWords [] cs) = some is ∧ (∀ i ∈ is, WellFormed i = true) ∧ inputs = is.map (encode r) := by
  rw [assembleLine] at h
  split at h
  · nomatch h
  · next r cs hrequester =>
    split at h
    · nomatch h
    · next is hwords =>
      split at h
      · next hwf => exact ⟨r, cs, is, hrequester, hwords, List.all_eq_true.mp hwf, (Except.ok.inj h).symm⟩
      · nomatch h

/-- R101: only RX gives more than one instruction. -/
theorem shape_of_assembleOne {m a : List Char} {is : List Instr} (h : assembleOne m a = some is) :
    (∃ i, is = [i]) ∨ ∃ bytes : List Byte, is = bytes.map .rxByte := by
  rw [assembleOne] at h
  split_ifs at h
  all_goals obtain ⟨x, -, rfl⟩ := Option.map_eq_some_iff.mp h
  · exact .inl ⟨_, rfl⟩
  · exact .inl ⟨_, rfl⟩
  · exact .inr ⟨x, rfl⟩
  · exact .inl ⟨_, rfl⟩

theorem shape_of_assembleWords {ws : List (List Char)} {is : List Instr} (h : assembleWords ws = some is) :
    is = [] ∨ (∃ i, is = [i]) ∨ ∃ bytes : List Byte, is = bytes.map .rxByte := by
  have single {a : Option Instr} (ha : (a.map fun i => [i]) = some is) : ∃ i, is = [i] := by
    obtain ⟨i, -, rfl⟩ := Option.map_eq_some_iff.mp ha
    exact ⟨i, rfl⟩
  match ws, h with
  | [], h => exact .inl (Option.some.inj h).symm
  | [_], h => exact .inr (.inl (single h))
  | [_, _], h => exact .inr (shape_of_assembleOne h)
  | [_, _, _], h => exact .inr (.inl (single h))
  | [_, _, _, _], h => exact .inr (.inl (single h))
  | [_, _, _, _, _], h => exact .inr (.inl (single h))

/-- A requester's line is not empty, and without one the line is what stands before its comment. -/
theorem gaps_of_splitRequester {cs front : List Char} {r : Nat} (h : splitRequester front = some (r, cs))
    (hcs : ∀ c ∈ cs, isGap c = true) : ∀ c ∈ front, isGap c = true := by
  rw [splitRequester] at h
  split at h
  · next rest _ =>
    dsimp only at h
    split_ifs at h with hbad
    obtain ⟨_, -, hpair⟩ := Option.map_eq_some_iff.mp h
    obtain ⟨-, rfl⟩ := Prod.mk.inj hpair
    exact absurd (.inr (List.all_eq_true.mpr hcs)) hbad
  · obtain ⟨-, rfl⟩ := Prod.mk.inj (Option.some.inj h)
    have hnil : front.dropWhile isGap = [] := by
      by_contra hne
      exact Bool.false_ne_true ((List.head_dropWhile_not isGap hne).symm.trans (hcs _ (List.head_mem hne)))
    exact List.dropWhile_eq_nil_iff.mp hnil

/-- R100: which lines give no input. -/
theorem assembleLine_eq_nil_iff (line : String) :
    assembleLine line = .ok [] ↔ ∀ c ∈ line.toList.takeWhile (· ≠ ';'), isGap c = true := by
  constructor
  · intro h
    obtain ⟨r, cs, is, hrequester, hwords, -, hnil⟩ := eq_map_encode_of_assembleLine h
    obtain rfl : is = [] := List.map_eq_nil_iff.mp hnil.symm
    have hempty := assembleWords_nil (splitWords_ne_nil [] cs) hwords
    exact gaps_of_splitRequester hrequester ((splitWords_eq_nil [] cs).mp hempty).2
  · intro h
    have hrequester : splitRequester (line.toList.takeWhile (· ≠ ';')) = some (0, []) := by
      rw [splitRequester, List.dropWhile_eq_nil_iff.mpr h]
    exact assembleLine_eq hrequester rfl

theorem assemble_of_forall₂ {lines : List String} {outs : List (List Input)}
    (h : List.Forall₂ (fun line out => assembleLine line = .ok out) lines outs) :
    assemble lines = .ok outs.flatten := by
  induction h with
  | nil => rfl
  | cons hline _ ih => rw [assemble, hline, ih]; rfl

/-- Settles O8: a line by its words, in both directions. -/
theorem linesAssembleToTheirInstructions : Obligations.LinesAssembleToTheirInstructions := by
  refine ⟨fun i text comment htext hcomment => ?_, fun bytes comment hbytes hcomment => ?_, assembleLine_eq_nil_iff,
    fun _ _ => assemble_of_forall₂, fun line inputs h => ?_⟩
  · have hwords := hasWords_lineText htext
    refine ⟨fun hwf => ⟨?_, fun digits hdigits => ?_⟩, fun hwf => ?_⟩
    · rw [assembleLine_text hwords hcomment]
      simp [hwf]
    · rw [assembleLine_requester hwords hcomment hdigits]
      simp [hwf]
    · rw [assembleLine_text hwords hcomment]
      simp [hwf]
  · rw [assembleLine_text (hasWords_rx hbytes) hcomment]
    simp [WellFormed, encode, Function.comp_def]
  · obtain ⟨r, cs, is, -, hwords, hwf, rfl⟩ := eq_map_encode_of_assembleLine h
    refine ⟨fun input hinput => ?_, ?_⟩
    · obtain ⟨i, hi, rfl⟩ := List.mem_map.mp hinput
      exact ⟨r, i, hwf i hi, rfl, RoundTrip.decodeEncodeRoundTrip r i (hwf i hi)⟩
    · rcases shape_of_assembleWords hwords with rfl | ⟨i, rfl⟩ | ⟨bytes, rfl⟩
      · exact .inl rfl
      · exact .inr (.inl ⟨encode r i, rfl⟩)
      · exact .inr (.inr ⟨bytes, List.map_map⟩)

end Sys2Proof.Proofs.Assembler
end
